-- ==== Sys2Proof/Word.lean ====
section
/-! DEFINITION. The word types of the Ifwen 2240: bytes of frames, serial numbers, converter codes. -/

namespace Sys2Proof

/-- One byte of a frame (R121, R122). -/
abbrev Byte := BitVec 8

/-- A tag's or a reader's 32-bit serial number (00_scope.md, "Identities and codes"). -/
abbrev Serial := BitVec 32

/-- One code of the 12-bit converter, 0..4095 (R25). -/
abbrev Code := BitVec 12

end Sys2Proof
end

