-- ==== Sys2Proof/Syntax.lean ====
section
/-! DEFINITION. The commands the part takes: one constructor of `Instr` per row of spec/opcode_table.json,
with the operands that come from outside the part (log 1, log 5). -/

namespace Sys2Proof

/-- A reader command frame whose CRC agrees, less its kind byte and its CRC (R122). The payload is every byte
between the length field and the CRC, so that its length is the payload count of R110. -/
structure CommandFrame where
  reader  : Serial
  target  : Serial
  seq     : Byte
  length  : Byte
  payload : List Byte
deriving DecidableEq, Repr

/-- A QUERY command frame of the required two payload bytes, less its page code, which the command's row gives
(R122, R151). -/
structure QueryFrame where
  reader : Serial
  target : Serial
  seq    : Byte
  index  : Byte
deriving DecidableEq, Repr

/-- The fields of a 20-byte BEACON frame whose CRC agrees (R121), each as it was sent. -/
structure BeaconFrame where
  sender      : Serial
  compartment : BitVec 16
  leg         : Byte
  interval    : BitVec 16
  tmax        : BitVec 16
  tmin        : BitVec 16
  coverage    : Byte
  verdict     : Byte
  flags       : Byte
  seq         : Byte
deriving DecidableEq, Repr

/-- The commands. `busy` is the channel-busy indication as the transceiver gives it when the command's step senses
the channel (R116); a step that senses nothing does not read it. -/
inductive Instr where
  /-- COMMISSION (R5). -/
  | commission (f : CommandFrame) (busy : Bool)
  /-- HANDOVER (R149). -/
  | handover (f : CommandFrame) (busy : Bool)
  /-- QUERY_CERT_A (R156). -/
  | queryCertA (q : QueryFrame) (busy : Bool)
  /-- QUERY_CERT_B (R156). -/
  | queryCertB (q : QueryFrame) (busy : Bool)
  /-- QUERY_PROFILE (R154). -/
  | queryProfile (q : QueryFrame) (busy : Bool)
  /-- QUERY_LEG (R154). -/
  | queryLeg (q : QueryFrame) (busy : Bool)
  /-- QUERY_EPISODE (R154). -/
  | queryEpisode (q : QueryFrame) (busy : Bool)
  /-- QUERY_OPEN (R154). -/
  | queryOpen (q : QueryFrame) (busy : Bool)
  /-- QUERY_OVERFLOW (R154). -/
  | queryOverflow (q : QueryFrame) (busy : Bool)
  /-- QUERY_HISTORY (R154). -/
  | queryHistory (q : QueryFrame) (busy : Bool)
  /-- QUERY_PEERS (R104). -/
  | queryPeers (q : QueryFrame) (busy : Bool)
  /-- QUERY_FAULTS (R155). -/
  | queryFaults (q : QueryFrame) (busy : Bool)
  /-- QUERY_STATUS (R153). -/
  | queryStatus (q : QueryFrame) (busy : Bool)
  /-- QUERY_BAD_PAGE (R151), with the page code the frame carries. -/
  | queryBadPage (q : QueryFrame) (page : Byte) (busy : Bool)
  /-- LIVE (R157). -/
  | live (f : CommandFrame) (busy : Bool)
  /-- CLOSE (R13). -/
  | close (f : CommandFrame) (busy : Bool)
  /-- ERASE (R17). -/
  | erase (f : CommandFrame) (busy : Bool)
  /-- ERASE_COMPLETE (R143). -/
  | eraseComplete (busy : Bool)
  /-- FRAME_RECEIVED (R108): every byte of the frame, CRC included, and its link quality. -/
  | frameReceived (frame : List Byte) (quality : Byte) (busy : Bool)
  /-- BEACON (R91), with the frame's link quality. -/
  | beacon (b : BeaconFrame) (quality : Byte)
  /-- SETTLING_END (R25). -/
  | settlingEnd
  /-- CONVERSION_END (R25): the code the conversion yields. -/
  | conversionEnd (code : Code) (busy : Bool)
  /-- INTERVAL_BOUNDARY (R46). -/
  | intervalBoundary
  /-- COMPARE_MATCH (R50). -/
  | compareMatch
  /-- BEACON_DUE (R59). -/
  | beaconDue (busy : Bool)
  /-- BACKOFF_END (R116): the indication at the sense that ends the backoff, and at the sense of the other slot's
  frame when that sense drops the frame. -/
  | backoffEnd (busy : Bool) (busyNext : Bool)
  /-- TRANSMIT_COMPLETE (R118). -/
  | transmitComplete (busy : Bool)
  /-- TRANSMIT_TIMEOUT (R118). -/
  | transmitTimeout (busy : Bool)
  /-- WAIT_END (R107). -/
  | waitEnd (busy : Bool)
  /-- STORE_WRITE_END (R127): whether the record reads back as written, and whether the cell is below 1.90 V (R171). -/
  | storeWriteEnd (verified : Bool) (below190 : Bool) (busy : Bool)
  /-- CLOSING_RECORD_HANDOVER (R14). -/
  | closingRecordHandover
  /-- SUPPLY_LOW (R170). -/
  | supplyLow
  /-- SUPPLY_GOOD (R170). -/
  | supplyGood
  /-- SUPPLY_CRITICAL (R171). -/
  | supplyCritical (busy : Bool)
  /-- CRITICAL_CHECKPOINT_OFFER (R129). -/
  | criticalCheckpointOffer
  /-- HALT_READY (R171). -/
  | haltReady
  /-- SUPPLY_RECOVER (R173). -/
  | supplyRecover
  /-- RETENTION_LOSS (R172). -/
  | retentionLoss
  /-- POWER_ON (R175): the cell voltage in millivolts (R169). -/
  | powerOn (millivolts : Nat)
deriving DecidableEq, Repr

end Sys2Proof
end

