-- ==== Sys2Proof/Decode.lean ====
section
/-! DEFINITION. The commands that a word of spec/opcode_table.json's bits spells. -/

namespace Sys2Proof

/-- The command that the word `w` of `nbits` bits spells. No row of spec/opcode_table.json gives any bit (every row's
"fields" is empty and none has "fixed"), so no word spells a command: commands reach the part as frames and events. -/
def decodeTableWord (_nbits _w : Nat) : Option Instr := none

end Sys2Proof
end

