-- ==== Sys2Proof/Machine/Operands.lean ====
section
/-! DEFINITION. The operand forms: exact arithmetic with the spec's bounds, byte encodings, the CRC-16, the backoff
generator, the beacon offset, and the measurement arithmetic from codes to a temperature. -/

namespace Sys2Proof.Machine

/-- The greatest interval number, exposure and coverage count (R44, R62). -/
def max24 : Nat := 16777215

/-- A saturating addition: it stops at `top` (00_scope.md, "Arithmetic"). -/
def satAdd (top a b : Nat) : Nat := min top (a + b)

/-- `x` clamped into `lo..hi`. -/
def clampTo (lo hi x : Int) : Int := max lo (min hi x)

/-- The range of every temperature the part stores, sends or computes (00_scope.md, "Temperatures"). -/
def clampTemp (x : Int) : Int := clampTo (-4000) 8500 x

/-! ## Bytes -/

/-- `v` in `k` bytes, high byte first (00_scope.md, "Frames"). -/
def beBytes : Nat → Nat → List Byte
  | 0, _ => []
  | k + 1, v => BitVec.ofNat 8 (v / 256 ^ k) :: beBytes k v

/-- The unsigned number that bytes sent high byte first spell. -/
def ofBytes (bs : List Byte) : Nat := bs.foldl (fun acc b => acc * 256 + b.toNat) 0

/-- A signed 16-bit two's complement field (R121, R152). -/
def tempBytes (t : Int) : List Byte := beBytes 2 (t % 65536).toNat

/-- The signed value of a 16-bit two's complement field. -/
def signed16 (v : Nat) : Int := if v < 32768 then (v : Int) else (v : Int) - 65536

/-- A serial in 4 bytes (R122, R152). -/
def serialBytes (s : Serial) : List Byte := beBytes 4 s.toNat

/-- The serial that 4 bytes spell. -/
def serialOf (bs : List Byte) : Serial := BitVec.ofNat 32 (ofBytes bs)

/-- A byte with bit 0 the first flag of the list, bit 1 the next, and so on; the rest zero (R152). -/
def flagByte (flags : List Bool) : Byte :=
  BitVec.ofNat 8 (flags.foldr (fun b acc => acc * 2 + b.toNat) 0)

/-! ## The CRC-16 of R120 -/

/-- `k` shifts of the CRC register, high bit first, with polynomial 0x1021. -/
def crcShift : Nat → BitVec 16 → BitVec 16
  | 0, c => c
  | k + 1, c => crcShift k (if c.msb then (c <<< 1) ^^^ 0x1021#16 else c <<< 1)

/-- One byte entered into the CRC register, high bit first. -/
def crcByte (c : BitVec 16) (b : Byte) : BitVec 16 := crcShift 8 (c ^^^ (b.zeroExtend 16 <<< 8))

/-- The CRC-16 of R120: initial value 0xFFFF, no final inversion. -/
def crc16 (bs : List Byte) : BitVec 16 := bs.foldl crcByte 0xFFFF#16

/-- A frame's bytes followed by their CRC, high byte first (R120). -/
def withCrc (bs : List Byte) : List Byte := bs ++ beBytes 2 (crc16 bs).toNat

/-- R108's check: at least three bytes, and the CRC over all but the last two equals the last two, high byte first. -/
def crcAgrees (frame : List Byte) : Bool :=
  3 ≤ frame.length &&
    ofBytes (frame.drop (frame.length - 2)) == (crc16 (frame.take (frame.length - 2))).toNat

/-! ## Backoff and beacon offset -/

/-- One Galois step of the backoff generator with mask 0xB400 (R117). -/
def lfsrStep (v : BitVec 16) : BitVec 16 :=
  if v.getLsbD 0 then (v >>> 1) ^^^ 0xB400#16 else v >>> 1

/-- The seed of the backoff generator (R106): the serial's low 16 bits, or 0xACE1 when they are zero. -/
def lfsrSeed (serial : Serial) : BitVec 16 :=
  if serial.truncate 16 = 0#16 then 0xACE1#16 else serial.truncate 16

/-- The backoff period in milliseconds for a value of the generator: the low three bits plus one, times 8 (R116). -/
def backoffMs (v : BitVec 16) : Nat := (v.toNat % 8 + 1) * 8

/-- The beacon offset of interval `n` for a serial (R58). -/
def beaconOffsetOf (serial : Serial) (n : Nat) : Nat :=
  5000 + ((((serial.toNat % 65536) ^^^ (n % 65536)) * 40503) % 65536 * 50000) / 65536

/-! ## Sets of figures -/

/-- `x` put into its place in a rising list. -/
def insertRising (x : Int) : List Int → List Int
  | [] => [x]
  | y :: ys => if x ≤ y then x :: y :: ys else y :: insertRising x ys

/-- The list in rising order, equal values kept separately. -/
def rising : List Int → List Int
  | [] => []
  | x :: xs => insertRising x (rising xs)

/-- The median of R69: of `k` values the `((k + 1) div 2)`-th smallest. -/
def medianOf (xs : List Int) : Int := (rising xs).getD ((xs.length + 1) / 2 - 1) 0

/-- The largest of a nonempty list of codes, 0 of an empty one. -/
def largest (xs : List Nat) : Nat := xs.foldl max 0

/-- The smallest of a nonempty list of codes; `d` bounds it above. -/
def smallest (d : Nat) (xs : List Nat) : Nat := xs.foldl min d

/-! ## From codes to a temperature (R31 to R38) -/

/-- The reference check of R31. -/
def referencePasses (r1 r2 : Nat) : Bool :=
  1800 ≤ r1 && r1 ≤ 2300 && 1800 ≤ r2 && r2 ≤ 2300 && max r1 r2 - min r1 r2 ≤ 16

/-- The reference code of the burst, the mean of the two rounded half up (R32). -/
def referenceCode (r1 r2 : Nat) : Nat := (r1 + r2 + 1) / 2

/-- The trimmed sum of a channel's codes: their sum less the largest and less the smallest (R34). -/
def trimmedSum (codes : List Nat) : Nat := codes.sum - largest codes - smallest 4095 codes

/-- The normalised ratio of R35. -/
def normalisedRatio (m rref : Nat) : Nat := (m * 4096 + rref) / (2 * rref)

/-- The conversion table of R36: temperature in centidegrees and ratio, in descending order of the ratio. -/
def conversionTable : List (Int × Nat) :=
  [(-4000, 8900), (-2500, 8100), (-1000, 6900), (0, 5900), (1000, 4900), (2500, 3500), (4000, 2400), (6000, 1400),
    (8500, 700)]

/-- The interpolation of R36: in the segment whose lower breakpoint is the first below `q`. -/
def interpolate (q : Nat) : List (Int × Nat) → Int
  | (t1, q1) :: (t2, q2) :: rest =>
    if q2 < q then t1 + (((q1 - q : Nat) : Int) * (t2 - t1) + ((q1 - q2) / 2 : Nat)) / ((q1 - q2 : Nat) : Int)
    else interpolate q ((t2, q2) :: rest)
  | [(t, _)] => t
  | [] => 0

/-- A range flag of a channel (R37). -/
inductive RangeFlag where
  | low
  | high
deriving DecidableEq, Repr

/-- The table temperature of a ratio and its range flag (R36, R37). -/
def tableTemp (q : Nat) : Int × Option RangeFlag :=
  if 8900 ≤ q then (-4000, some .low)
  else if q ≤ 700 then (8500, some .high)
  else (interpolate q conversionTable, none)

/-- The channel's temperature: the table temperature plus the trim, clamped (R38). -/
def trimmedTemp (ttab trim : Int) : Int := clampTemp (ttab + trim)

/-- The fault that the channel check finds, with the context it notes (R33). -/
inductive ChannelFault where
  | short (code : Nat)
  | opened (code : Nat)
  | noisy (spread : Nat)
deriving DecidableEq, Repr

/-- The channel check of R33 on a channel's four codes, in its order. -/
def channelCheck (codes : List Nat) : Option ChannelFault :=
  if smallest 4095 codes ≤ 40 then some (.short (smallest 4095 codes))
  else if 4055 ≤ largest codes then some (.opened (largest codes))
  else if 64 < largest codes - smallest 4095 codes then some (.noisy (largest codes - smallest 4095 codes))
  else none

/-! ## The warming rate -/

/-- The warming rate of R56 in centidegrees per minute, truncated toward zero. -/
def warmingRate (tNew tRef : Int) (dt : Int) : Int := Int.tdiv ((tNew - tRef) * 60000) dt

end Sys2Proof.Machine
end

