-- ==== Sys2Proof/Machine/Records.lean ====
section
/-! DEFINITION. The records the part keeps: captures, the profile, accumulators, peer entries, episodes, legs,
checkpoints, certificates, fault notes. Each is plain data with the fields its rule names. -/

namespace Sys2Proof.Machine

/-- The custody states (R1). -/
inductive Custody where
  | blank | commissioning | precool | chilled | excursion | broken | closing | closed | erasing
deriving DecidableEq, Repr

/-- A capture: interval number and phase at one moment (00_scope.md, "Custody time"). -/
structure Capture where
  interval : Nat
  phase    : Nat
deriving DecidableEq, Repr

/-- The break cause set (R3). -/
structure Causes where
  peak       : Bool
  warmBudget : Bool
  coldBudget : Bool
  gap        : Bool
  precool    : Bool
  powerLoss  : Bool
deriving DecidableEq, Repr

/-- A set of trigger sources (R22). -/
structure Sources where
  schedule : Bool
  alert    : Bool
  spot     : Bool
deriving DecidableEq, Repr

/-- One trigger (R23). -/
inductive Source where
  | schedule | alert | spot
deriving DecidableEq, Repr

/-- A pair of temperatures: the warm-side figure (Tw, Tmax) and the cold-side figure (Tc, Tmin). -/
structure Figures where
  hi : Int
  lo : Int
deriving DecidableEq, Repr

/-- A warm and a cold charge in centidegree-minutes. -/
structure Charges where
  warm : Nat
  cold : Nat
deriving DecidableEq, Repr

/-- How an interval is covered (R67, R121); NONE stands only in beacons (R111). -/
inductive Coverage where
  | none | own | air | witness | gap
deriving DecidableEq, Repr

/-- The consignment profile's stored values (R20). -/
structure Profile where
  upper        : Int
  lower        : Int
  peak         : Int
  warmBudget   : Nat
  coldBudget   : Nat
  gapAllowance : Nat
  precoolLimit : Nat
  airUse       : Bool
  witnessUse   : Bool
  airMargin    : Int
  witnessMargin : Int
  qualityFloor : Nat
  riseThreshold : Int
  disagreement : Int
  compartment  : Nat
  carrier      : Nat
deriving DecidableEq, Repr

/-- The profile with the consignment ID, as CU holds it in retention and as the profile record holds it (R20, R142). -/
structure ProfileRecord where
  profile      : Profile
  consignment  : List Byte
deriving DecidableEq, Repr

/-- The reader serial and sequence that a later reply answers (R114, R146). -/
structure Asker where
  reader : Serial
  seq    : Byte
deriving DecidableEq, Repr

/-- What a burst holds while it is in flight (R22, R24). -/
structure Flight where
  start   : Capture
  sources : Sources
  credit  : Bool
  air     : Bool
deriving DecidableEq, Repr

/-- The burst state (R22), with what is held only in it. -/
inductive Burst where
  | idle
  | settling (f : Flight)
  | converting (f : Flight) (codes : List Code)
deriving DecidableEq, Repr

/-- A channel's outcome (R39). -/
inductive Outcome where
  | temp (t : Int)
  | ref
  | short
  | opened
  | noisy
deriving DecidableEq, Repr

/-- A burst result record (R39). An absent A outcome is `none`. -/
structure BurstResult where
  start   : Capture
  sources : Sources
  credit  : Bool
  p       : Outcome
  a       : Option Outcome
  pRange  : Option RangeFlag
  aRange  : Option RangeFlag
deriving DecidableEq, Repr

/-- The schedule modes (R48). -/
inductive Mode where
  | steady | fast | lean
deriving DecidableEq, Repr

/-- A rise reference or rise buffer: a capture with the P temperature of its burst (R44, R54). -/
structure RisePoint where
  at_  : Capture
  temp : Int
deriving DecidableEq, Repr

/-- An accumulator record (R63); the extremes are absent while their count is 0. -/
structure Accumulator where
  interval : Nat
  p        : Option Figures
  pCount   : Nat
  a        : Option Figures
  aCount   : Nat
  bursts   : Nat
  sources  : Sources
deriving DecidableEq, Repr

/-- The coverage counts (R62, R81). -/
structure Counts where
  own       : Nat
  air       : Nat
  witness   : Nat
  bridged   : Nat
  unbridged : Nat
  raised    : Nat
  lost      : Nat
deriving DecidableEq, Repr

/-- An interval record of the history ring (R82). -/
structure IntervalRecord where
  interval : Nat
  coverage : Coverage
  figures  : Option Figures
  bursts   : Nat
  pCount   : Nat
  sources  : Sources
  witness  : Option Serial
  raised   : Bool
  own      : Charges
  bridge   : Option Charges
  mode     : Mode
  halted   : Bool
  partialClose : Bool
deriving DecidableEq, Repr

/-- A peer entry of the neighbour table (R89). -/
structure Peer where
  serial      : Serial
  compartment : Nat
  leg         : Nat
  figures     : Option Figures
  coverage    : Coverage
  verdict     : Byte
  alert       : Bool
  raised      : Bool
  sensorFault : Bool
  lean        : Bool
  quality     : Nat
  arrival     : Capture
  previous    : Option Capture
  age         : Nat
deriving DecidableEq, Repr

/-- The transmitter states (R106). -/
inductive TxState where
  | idle | wait | sense | backoff | sending
deriving DecidableEq, Repr

/-- The two slots of the link controller (R106). -/
inductive Slot where
  | beacon | reply
deriving DecidableEq, Repr

/-- The kind of a beacon request (R112). -/
inductive BeaconKind where
  | scheduled | alert
deriving DecidableEq, Repr

/-- A beacon request with its ready capture (R106). -/
structure BeaconRequest where
  kind  : BeaconKind
  ready : Capture
deriving DecidableEq, Repr

/-- The status codes of a REPLY (R122). -/
inductive Status where
  | ok | notBlank | notCommissioned | badProfile | legMismatch | legsFull | closed | notClosed | badIndex | busy
  | storeFail | aborted | badLength
deriving DecidableEq, Repr

/-- A reply's content (R114, R145). -/
structure Reply where
  asker   : Asker
  status  : Status
  page    : Nat
  payload : List Byte
deriving DecidableEq, Repr

/-- A reply frame in its slot with its ready capture (R106); `frame` is its bytes as assembled at placement (R114). -/
structure PlacedReply where
  reply : Reply
  frame : List Byte
  ready : Capture
deriving DecidableEq, Repr

/-- The frame being sent in SENDING and the slot it left (R118). -/
structure OnAir where
  slot  : Slot
  frame : List Byte
deriving DecidableEq, Repr

/-- The beacon content record (R111). -/
structure BeaconContent where
  interval : Nat
  coverage : Coverage
  figures  : Option Figures
  raised   : Bool
  noValidP : Bool
  verdict  : Custody
deriving DecidableEq, Repr

/-- The ten link counters (R119). -/
structure LinkCounters where
  receivedGood   : Nat
  crcErrors      : Nat
  beaconsTaken   : Nat
  commandsTaken  : Nat
  discarded      : Nat
  beaconsSent    : Nat
  repliesSent    : Nat
  beaconsDropped : Nat
  repliesDropped : Nat
  busySenses     : Nat
deriving DecidableEq, Repr

/-- The kinds of episode (R131). -/
inductive EpisodeKind where
  | excursion | gap | cover | brk | power
deriving DecidableEq, Repr

/-- An episode record (R131). A field that is absent for its kind is `none`, 0 or empty, as R152 sends it. -/
structure Episode where
  kind         : EpisodeKind
  index        : Option Nat
  leg          : Nat
  start        : Nat
  finish       : Option Nat
  count        : Nat
  warmPeak     : Int
  coldLow      : Int
  charges      : Option Charges
  airCount     : Nat
  witnessCount : Nat
  firstWitness : Option Serial
  causes       : Causes
  lostUnknown  : Bool
deriving DecidableEq, Repr

/-- A leg record (R135). -/
structure Leg where
  number      : Nat
  compartment : Nat
  carrier     : Nat
  start       : Nat
  finish      : Option Nat
  figures     : Option Figures
  charges     : Charges
  own         : Nat
  air         : Nat
  witness     : Nat
  gap         : Nat
  reader      : Serial
deriving DecidableEq, Repr

/-- The overflow summary (R134). -/
structure Overflow where
  folded : Nat
  warm   : Nat
  cold   : Nat
  gaps   : Nat
deriving DecidableEq, Repr

/-- The fields of a checkpoint but its CRC (R140). -/
structure CheckpointContent where
  interval      : Nat
  sequence      : Nat
  custody       : Custody
  causes        : Causes
  breakInterval : Option Nat
  custodyStart  : Option Nat
  counts        : Counts
  gapRun        : Nat
  mark          : Bool
  before        : Option Figures
  consensusRun  : Nat
  precoolCount  : Nat
  legCount      : Nat
  openLeg       : Option Leg
  overflow      : Overflow
  sticky        : BitVec 22
  fastUntil     : Nat
deriving DecidableEq, Repr

/-- A checkpoint record with its own CRC (R123, R140). -/
structure Checkpoint where
  content : CheckpointContent
  crc     : BitVec 16
deriving DecidableEq, Repr

/-- The grades of a certificate (R164). -/
inductive Grade where
  | notStarted | broken | clean | supported
deriving DecidableEq, Repr

/-- The certificate (R160), less its CRC, which is the CRC of its pages' content (R168). -/
structure Certificate where
  serial        : Serial
  consignment   : List Byte
  carrier       : Nat
  grade         : Grade
  provisional   : Bool
  custodyStart  : Option Nat
  endInterval   : Option Nat
  causes        : Causes
  breakInterval : Option Nat
  exposure      : Charges
  budgets       : Charges
  counts        : Counts
  gapRun        : Nat
  figures       : Option Figures
  legCount      : Nat
  legsNotStored : Nat
  episodes      : Nat
  sticky        : BitVec 22
deriving DecidableEq, Repr

/-- A record in the write queue (R125). A checkpoint has its content only once its write has started (R140). -/
inductive QueueRecord where
  | profile (r : ProfileRecord)
  | episode (e : Episode)
  | leg (l : Leg)
  | checkpoint (content : Option Checkpoint)
  | certificate (c : Certificate)
deriving DecidableEq, Repr

/-- A closing record that CU has still to hand over (R14). -/
inductive ClosingItem where
  | episode (e : Episode)
  | leg (l : Leg)
  | checkpoint
  | certificate
deriving DecidableEq, Repr

/-- The store states (R124). -/
inductive StoreState where
  | idle | writing | erasing
deriving DecidableEq, Repr

/-- The supply states (R169). -/
inductive Supply where
  | good | low | critical
deriving DecidableEq, Repr

/-- The activities (R169). -/
inductive Activity where
  | running | halted
deriving DecidableEq, Repr

/-- The fault codes of R181, in the order of their numbers. -/
inductive FaultCode where
  | pShort | pOpen | pNoisy | aShort | aOpen | aNoisy | refFault | rangeLow | rangeHigh | probeColdSuspect
  | crcError | beaconDropped | replyDropped | peerOverflow | duplicateSerial | storeFail | queueFull | logFull
  | checkpointBad | supplyLow | supplyCritical | powerLoss
deriving DecidableEq, Repr

/-- A fault context record (R179); the datum is 8 bytes (R181). -/
structure FaultNote where
  code     : FaultCode
  interval : Nat
  phase    : Nat
  datum    : List Byte
deriving DecidableEq, Repr

/-- The empty break cause set. -/
def Causes.empty : Causes := ⟨false, false, false, false, false, false⟩

/-- The union of two sets of causes. -/
def Causes.union (a b : Causes) : Causes :=
  ⟨a.peak || b.peak, a.warmBudget || b.warmBudget, a.coldBudget || b.coldBudget, a.gap || b.gap,
    a.precool || b.precool, a.powerLoss || b.powerLoss⟩

/-- The empty set of sources. -/
def Sources.empty : Sources := ⟨false, false, false⟩

/-- The union of two sets of sources. -/
def Sources.union (a b : Sources) : Sources :=
  ⟨a.schedule || b.schedule, a.alert || b.alert, a.spot || b.spot⟩

/-- The set of one source. -/
def Source.only : Source → Sources
  | .schedule => ⟨true, false, false⟩
  | .alert => ⟨false, true, false⟩
  | .spot => ⟨false, false, true⟩

/-- An empty accumulator for interval `n` (R63). -/
def Accumulator.empty (n : Nat) : Accumulator := ⟨n, none, 0, none, 0, 0, Sources.empty⟩

/-- The coverage counts all 0. -/
def Counts.zero : Counts := ⟨0, 0, 0, 0, 0, 0, 0⟩

/-- The link counters all 0 (R119). -/
def LinkCounters.zero : LinkCounters := ⟨0, 0, 0, 0, 0, 0, 0, 0, 0, 0⟩

/-- The overflow summary zero (R134). -/
def Overflow.zero : Overflow := ⟨0, 0, 0, 0⟩

/-- The burst period of a mode in milliseconds (R48). -/
def Mode.period : Mode → Nat
  | .steady => 30000
  | .fast => 10000
  | .lean => 60000

/-- The states in which the regular activities run (R2). -/
def Custody.inService : Custody → Bool
  | .precool | .chilled | .excursion | .broken => true
  | .blank | .commissioning | .closing | .closed | .erasing => false

end Sys2Proof.Machine
end

