-- ==== Sys2Proof/Config.lean ====
section
/-! DEFINITION. The free values: constants with no body, of which nothing can be proved but that they are used. -/

namespace Sys2Proof

/-- The bytes over which a checkpoint's own CRC runs (R123, R140). The spec names the fields and not their layout, so
the layout is free (log 16). -/
opaque Config.checkpointBytes : Machine.CheckpointContent → List Byte

/-- The code that the `n`-th free input gives a conversion whose end the tick raises itself (log 5). -/
opaque Config.freeCode : Nat → Code

/-- The channel-busy indication that the `n`-th free input gives (log 5). -/
opaque Config.freeBusy : Nat → Bool

/-- Whether a record reads back as written, as the `n`-th free input gives it (log 5). -/
opaque Config.freeVerify : Nat → Bool

/-- Whether the cell is below 1.90 V at the end of a write, as the `n`-th free input gives it (log 5). -/
opaque Config.freeBelow190 : Nat → Bool

/-- Whether the part's own frame is still on the air in SENDING: by the frame, the moment, and the quarters of a
millisecond that are left of its 20 ms (log 51). -/
opaque Config.freeOnAir : List Byte → Machine.Capture → Nat → Bool

end Sys2Proof
end

