-- ==== Sys2Proof/Machine/State.lean ====
section
/-! DEFINITION. The state of the part, block by block, as plain data; the reasons a step can stop; the state right
after reset. -/

namespace Sys2Proof.Machine

/-- The information store (00_scope.md, R38): factory-set, read-only. Its conversion table is `conversionTable`. -/
structure Info where
  serial : Serial
  pTrim  : Int
  aTrim  : Int
deriving DecidableEq, Repr

/-- The custody controller (chapter 1). -/
structure CustodyBlock where
  custody       : Custody
  causes        : Causes
  breakInterval : Option Nat
  custodyStart  : Option Nat
  commissioned  : Option ProfileRecord
  held          : Option Asker
  closing       : List ClosingItem
  certificate   : Option Certificate
deriving DecidableEq, Repr

/-- The measurement converter (R22). -/
structure ConverterBlock where
  burst    : Burst
  triggers : Sources
  last     : Option BurstResult
deriving DecidableEq, Repr

/-- The timebase and burst schedule (R44). `quarter` is the quarter of the millisecond, the model's own (log 2). -/
structure TimebaseBlock where
  interval      : Nat
  phase         : Nat
  quarter       : Nat
  mode          : Mode
  fastUntil     : Nat
  compare       : Option Nat
  period        : Nat
  buffer        : Nat
  riseRef       : Option RisePoint
  riseBuffer    : Option RisePoint
  alertInterval : Option Nat
  beaconOffset  : Nat
deriving DecidableEq, Repr

/-- The interval close and exposure engine (R62). `old` is the accumulator of an interval whose close is deferred,
`cur` that of the current interval; `lastClosed` is the last interval closed (R140, R162). -/
structure ExposureBlock where
  old          : Option Accumulator
  cur          : Option Accumulator
  exposure     : Charges
  gapRun       : Nat
  mark         : Bool
  before       : Option Figures
  consensusRun : Nat
  counts       : Counts
  precoolCount : Nat
  history      : List IntervalRecord
  lastClosed   : Option Nat
deriving DecidableEq, Repr

/-- The link controller (R106, R107). -/
structure LinkBlock where
  enable        : Bool
  tx            : TxState
  onAir         : Option OnAir
  beaconSlot    : Option BeaconRequest
  replySlot     : Option PlacedReply
  served        : Option Slot
  attempts      : Nat
  generator     : BitVec 16
  content       : Option BeaconContent
  sequence      : Nat
  liveInFlight  : Option Asker
  liveWaiting   : Option Asker
  counters      : LinkCounters
deriving DecidableEq, Repr

/-- The retention side of the evidence store (R124). `criticalWaiting` is set while a CRITICAL checkpoint that found
the queue full waits for room (R129); `held` is the held answer of ERASE (R146). -/
structure StoreBlock where
  state           : StoreState
  queue           : List QueueRecord
  storedCount     : Nat
  openExcursion   : Option Episode
  openGap         : Option Episode
  openCover       : Option Episode
  openLeg         : Option Leg
  legCount        : Nat
  overflow        : Overflow
  ringPosition    : Nat
  sequence        : Nat
  logFullNoted    : Bool
  criticalWaiting : Bool
  held            : Option Asker
deriving DecidableEq, Repr

/-- The non-volatile areas of the evidence store (R123): 96 episode slots, 16 leg slots, 8 checkpoint slots. A slot
whose record lacks its completion mark is read as empty, and is `none`. -/
structure Areas where
  profile     : Option ProfileRecord
  episodes    : List (Option Episode)
  legs        : List (Option Leg)
  checkpoints : List (Option Checkpoint)
  certificate : Option Certificate
  eraseMarker : Bool
deriving DecidableEq, Repr

/-- The supply monitor and fault status (R169, R179). -/
structure SupplyBlock where
  supply      : Supply
  activity    : Activity
  haltPending : Bool
  sticky      : BitVec 22
  context     : Option FaultNote
  multiple    : Bool
  unread      : Nat
deriving DecidableEq, Repr

/-- Quarter milliseconds left of the periods running: the burst's stage, the transmitter's period, the store's
operation (the model's own, log 2). -/
structure Timers where
  burst : Nat
  tx    : Nat
  store : Nat
deriving DecidableEq, Repr

/-- The whole state of the part. `powered` is the model's own (log 8), and so are `timers` (log 2), `inputs` (log 5)
and the queue `pending` of the commands that wait, first in first out (log 1). -/
structure State where
  info    : Info
  cu      : CustodyBlock
  mc      : ConverterBlock
  tb      : TimebaseBlock
  ie      : ExposureBlock
  nt      : List (Option Peer)
  lc      : LinkBlock
  es      : StoreBlock
  nv      : Areas
  sf      : SupplyBlock
  powered : Bool
  timers  : Timers
  inputs  : Nat
  pending : List Instr
deriving DecidableEq, Repr

/-- The reasons a step can stop with a fault. There is none: no rule of the spec stops the part ("A noted fault does
not stop the part", chapter 11), so the type has no constructor and no meaning can answer with one (safe: nothing is
cut short). -/
inductive Fault where
deriving DecidableEq, Repr

/-- The reasons a command can be refused. -/
inductive Refusal where
  /-- The command of this mnemonic has no meaning yet. Raised only by an arm of `exec` (none is left); safe, since
  nothing is proved of a command that has no meaning. -/
  | notModelled (mnemonic : String)
deriving DecidableEq, Repr

/-- CU in BLANK (R17). -/
def CustodyBlock.blank : CustodyBlock := ⟨.blank, Causes.empty, none, none, none, none, [], none⟩

/-- MC idle with no last result (R22). -/
def ConverterBlock.blank : ConverterBlock := ⟨.idle, Sources.empty, none⟩

/-- IE in BLANK (R17): no accumulator, everything 0, absent or empty. -/
def ExposureBlock.blank : ExposureBlock := ⟨none, none, ⟨0, 0⟩, 0, false, none, 0, Counts.zero, 0, [], none⟩

/-- TB at power-on with interval number `n`, mode `m` and fast-until `f` (R60). -/
def TimebaseBlock.start (serial : Serial) (n f : Nat) (m : Mode) : TimebaseBlock :=
  ⟨n, 0, 0, m, f, some 0, m.period, m.period, none, none, none, beaconOffsetOf serial n⟩

/-- LC at power-on (R106, R107): WAIT with the transceiver on when RUNNING, IDLE with it off when HALTED. -/
def LinkBlock.start (serial : Serial) (running : Bool) : LinkBlock :=
  ⟨running, if running then .wait else .idle, none, none, none, none, 0, lfsrSeed serial, none, 0, none, none,
    LinkCounters.zero⟩

/-- ES in BLANK (R17, R124). -/
def StoreBlock.blank : StoreBlock :=
  ⟨.idle, [], 0, none, none, none, none, 0, Overflow.zero, 0, 0, false, false, none⟩

/-- Every area empty and the erase marker clear (R123, R124). -/
def Areas.empty : Areas :=
  ⟨none, List.replicate 96 none, List.replicate 16 none, List.replicate 8 none, none, false⟩

/-- SF with an empty fault status (R179). -/
def SupplyBlock.start (supply : Supply) (activity : Activity) : SupplyBlock :=
  ⟨supply, activity, false, 0, none, false, 0⟩

/-- The neighbour table with every slot empty (R89, R98). -/
def emptyTable : List (Option Peer) := List.replicate 24 none

/-- The information store of the tag that reset shows (log 7). -/
def Info.atReset : Info := ⟨0x00A10040#32, 0, 0⟩

/-- The part right after power-on of a factory-new tag, its store empty, on a cell of 2.60 V or more: custody BLANK,
RUNNING, the transmitter in its 4 ms WAIT (R1, R60, R106, R124, R169, R175; log 6). -/
def State.reset : State where
  info := Info.atReset
  cu := CustodyBlock.blank
  mc := ConverterBlock.blank
  tb := TimebaseBlock.start Info.atReset.serial 0 0 .steady
  ie := ExposureBlock.blank
  nt := emptyTable
  lc := LinkBlock.start Info.atReset.serial true
  es := StoreBlock.blank
  nv := Areas.empty
  sf := SupplyBlock.start .good .running
  powered := true
  timers := ⟨0, 16, 0⟩
  inputs := 0
  pending := []

end Sys2Proof.Machine
end

