-- ==== Sys2Proof/Machine/Flags.lean ====
section
/-! DEFINITION. The codes and flag bytes that frames, pages and fault notes carry (R1, R121, R122, R131, R144, R152,
R164, R167, R181), and the layouts of the beacon and the command frame. -/

namespace Sys2Proof.Machine

/-- The custody state codes (R1). -/
def Custody.code : Custody → Nat
  | .blank => 0
  | .commissioning => 1
  | .precool => 2
  | .chilled => 3
  | .excursion => 4
  | .broken => 5
  | .closing => 6
  | .closed => 7
  | .erasing => 8

/-- The coverage codes (R121). -/
def Coverage.code : Coverage → Nat
  | .none => 0
  | .own => 1
  | .air => 2
  | .witness => 3
  | .gap => 4

/-- The coverage kept for a received code: any other code is NONE (R90). -/
def coverageOfCode (c : Nat) : Coverage :=
  if c = 1 then .own else if c = 2 then .air else if c = 3 then .witness else if c = 4 then .gap else .none

/-- The status codes (R122). -/
def Status.code : Status → Nat
  | .ok => 0
  | .notBlank => 1
  | .notCommissioned => 2
  | .badProfile => 3
  | .legMismatch => 4
  | .legsFull => 5
  | .closed => 6
  | .notClosed => 7
  | .badIndex => 8
  | .busy => 9
  | .storeFail => 10
  | .aborted => 11
  | .badLength => 12

/-- The episode kind codes (R131). -/
def EpisodeKind.code : EpisodeKind → Nat
  | .excursion => 1
  | .gap => 2
  | .cover => 3
  | .brk => 4
  | .power => 5

/-- The record kind (R144) and, for an episode, its kind code: the datum of the store faults (R181). -/
def QueueRecord.datum : QueueRecord → List Byte
  | .profile _ => [1, 0]
  | .episode e => [2, BitVec.ofNat 8 e.kind.code]
  | .leg _ => [3, 0]
  | .checkpoint _ => [4, 0]
  | .certificate _ => [5, 0]

/-- The grade codes (R164). -/
def Grade.code : Grade → Nat
  | .notStarted => 0
  | .broken => 1
  | .clean => 2
  | .supported => 3

/-- The supply state codes of the STATUS page (R153). -/
def Supply.code : Supply → Nat
  | .good => 0
  | .low => 1
  | .critical => 2

/-- The activity codes of the STATUS page (R153). -/
def Activity.code : Activity → Nat
  | .running => 0
  | .halted => 1

/-- The schedule mode codes of the STATUS page (R153). -/
def Mode.code : Mode → Nat
  | .steady => 0
  | .fast => 1
  | .lean => 2

/-- The store state codes of the STATUS page (R153). -/
def StoreState.code : StoreState → Nat
  | .idle => 0
  | .writing => 1
  | .erasing => 2

/-- The numbers of the fault codes (R181). -/
def FaultCode.number : FaultCode → Nat
  | .pShort => 1
  | .pOpen => 2
  | .pNoisy => 3
  | .aShort => 4
  | .aOpen => 5
  | .aNoisy => 6
  | .refFault => 7
  | .rangeLow => 8
  | .rangeHigh => 9
  | .probeColdSuspect => 10
  | .crcError => 11
  | .beaconDropped => 12
  | .replyDropped => 13
  | .peerOverflow => 14
  | .duplicateSerial => 15
  | .storeFail => 16
  | .queueFull => 17
  | .logFull => 18
  | .checkpointBad => 19
  | .supplyLow => 20
  | .supplyCritical => 21
  | .powerLoss => 22

/-- The sticky-set bit of a code: its number less one (R181). -/
def FaultCode.bit (c : FaultCode) : BitVec 22 := 1#22 <<< (c.number - 1)

/-- The sticky set in its 3-byte form: bit n for code number n + 1, bits 22 and 23 zero (R183). -/
def stickyBytes (set : BitVec 22) : List Byte := beBytes 3 set.toNat

/-- The break cause set byte (R167). -/
def Causes.byte (c : Causes) : Byte :=
  flagByte [c.peak, c.warmBudget, c.coldBudget, c.gap, c.precool, c.powerLoss]

/-- Whether a set of causes holds a member. -/
def Causes.nonempty (c : Causes) : Bool :=
  c.peak || c.warmBudget || c.coldBudget || c.gap || c.precool || c.powerLoss

/-- The sources byte (R152). -/
def Sources.byte (s : Sources) : Byte := flagByte [s.schedule, s.alert, s.spot]

/-- Whether a set of sources holds a member. -/
def Sources.nonempty (s : Sources) : Bool := s.schedule || s.alert || s.spot

/-- A channel outcome in three bytes; absent is code 5 (R152). -/
def outcomeBytes : Option Outcome → List Byte
  | some (.temp t) => 0 :: tempBytes t
  | some .ref => [1, 0, 0]
  | some .short => [2, 0, 0]
  | some .opened => [3, 0, 0]
  | some .noisy => [4, 0, 0]
  | none => [5, 0, 0]

/-- The range flags byte (R152). -/
def rangeByte (p a : Option RangeFlag) : Byte :=
  flagByte [p = some .low, p = some .high, a = some .low, a = some .high]

/-- A capture in five bytes: interval number, then phase (R152). -/
def Capture.bytes (c : Capture) : List Byte := beBytes 3 c.interval ++ beBytes 2 c.phase

/-- A three-byte number that is absent is sent as zero (R152). -/
def optional3 (n : Option Nat) : List Byte := beBytes 3 (n.getD 0)

/-- A pair of temperatures, zero when absent (R152). -/
def figureBytes (f : Option Figures) : List Byte :=
  tempBytes ((f.map (·.hi)).getD 0) ++ tempBytes ((f.map (·.lo)).getD 0)

/-- A warm and a cold charge in three bytes each, zero when absent (R152). -/
def chargeBytes (c : Option Charges) : List Byte :=
  beBytes 3 ((c.map (·.warm)).getD 0) ++ beBytes 3 ((c.map (·.cold)).getD 0)

/-- A beacon's 20 bytes (R121). -/
def beaconBytes (b : BeaconFrame) : List Byte :=
  withCrc <|
    [0x1B#8] ++ serialBytes b.sender ++ beBytes 2 b.compartment.toNat ++ [b.leg] ++ beBytes 2 b.interval.toNat
      ++ beBytes 2 b.tmax.toNat ++ beBytes 2 b.tmin.toNat ++ [b.coverage, b.verdict, b.flags, b.seq]

/-- A reader command frame's bytes, for its kind byte (R122). -/
def commandBytes (kind : Byte) (f : CommandFrame) : List Byte :=
  withCrc <| [kind] ++ serialBytes f.reader ++ serialBytes f.target ++ [f.seq, f.length] ++ f.payload

/-- The excitation of the three dividers: on while the burst state is SETTLING or CONVERTING (R22). -/
def State.excitation (s : State) : Bool :=
  match s.mc.burst with
  | .idle => false
  | .settling _ | .converting _ _ => true

end Sys2Proof.Machine
end

