-- ==== Sys2Proof/Machine/Ops.lean ====
section
/-! DEFINITION. The shared operations: noting a fault, the link controller's slots and transmitter, triggers and burst
starts, mode selection and fast-until, the write queue. Every meaning is written over these. -/

namespace Sys2Proof.Machine

/-- The interval number and phase at this moment (00_scope.md, "Custody time"). -/
def State.now (s : State) : Capture := ⟨s.tb.interval, s.tb.phase⟩

/-- The profile's limits all 0: it stands only where no profile is held, which no state in service shows (log 22). -/
def Profile.none : Profile := ⟨0, 0, 0, 0, 0, 0, 0, false, false, 0, 0, 0, 0, 0, 0, 0⟩

/-- The profile held in retention (R20). -/
def State.profile (s : State) : Profile := (s.cu.commissioned.map (·.profile)).getD Profile.none

/-! ## Noting a fault (R180) -/

/-- A datum of up to 8 bytes, the unused bytes zero (R181). -/
def padDatum (d : List Byte) : List Byte := (d ++ List.replicate 8 0).take 8

/-- Noting a fault with the interval and phase that the noting rule names (R180). -/
def note (code : FaultCode) (at_ : Capture) (datum : List Byte) (s : State) : State :=
  { s with sf := { s.sf with
      sticky := s.sf.sticky ||| code.bit
      unread := satAdd 255 s.sf.unread 1
      context := match s.sf.context with
        | none => some ⟨code, at_.interval, at_.phase, padDatum datum⟩
        | some c => some c
      multiple := s.sf.multiple || s.sf.context.isSome } }

/-- Noting a fault at the moment of noting (R180). -/
def noteNow (code : FaultCode) (datum : List Byte) (s : State) : State := note code s.now datum s

/-! ## The transmitter (R112 to R118) -/

/-- The causes of a dropped frame (R181). -/
inductive DropCause where
  | replaced | busy | timeout
deriving DecidableEq, Repr

/-- The cause codes of BEACON_DROPPED and REPLY_DROPPED (R181). -/
def DropCause.code : DropCause → Byte
  | .replaced => 1
  | .busy => 2
  | .timeout => 3

/-- One more of a link counter: it saturates at 65,535 (R119). -/
def bump (n : Nat) : Nat := satAdd 65535 n 1

/-- A change of the link counters. -/
def counting (f : LinkCounters → LinkCounters) (s : State) : State :=
  { s with lc := { s.lc with counters := f s.lc.counters } }

/-- A frame of a slot counts as dropped and its drop is noted; `detail` is what a REPLACED datum carries beside the
cause (R112, R114, R116, R118, R181). -/
def dropped (slot : Slot) (cause : DropCause) (detail : List Byte) (s : State) : State :=
  match slot with
  | .beacon =>
    noteNow .beaconDropped (cause.code :: detail)
      (counting (fun c => { c with beaconsDropped := bump c.beaconsDropped }) s)
  | .reply =>
    noteNow .replyDropped (cause.code :: detail)
      (counting (fun c => { c with repliesDropped := bump c.repliesDropped }) s)

/-- The beacon's fields as they are assembled when its transmission begins (R113). -/
def beaconFields (kind : BeaconKind) (s : State) : BeaconFrame :=
  let content := s.lc.content
  let coverage := (content.map (·.coverage)).getD .none
  let figures := (content.bind (·.figures)).getD ⟨0, 0⟩
  { sender := s.info.serial
    compartment := BitVec.ofNat 16 ((s.es.openLeg.map (·.compartment)).getD 0)
    leg := BitVec.ofNat 8 ((s.es.openLeg.map (·.number)).getD 0)
    interval := BitVec.ofNat 16 ((content.map (·.interval)).getD 0)
    tmax := BitVec.ofInt 16 figures.hi
    tmin := BitVec.ofInt 16 figures.lo
    coverage := BitVec.ofNat 8 coverage.code
    verdict := BitVec.ofNat 8 ((content.map (·.verdict.code)).getD 0)
    flags := flagByte [kind = .alert, (content.map (·.raised)).getD false,
      (content.map (·.noValidP)).getD true || coverage = .none, s.sf.supply = .low, s.cu.causes.nonempty]
    seq := BitVec.ofNat 8 s.lc.sequence }

/-- The beacon frame as it is assembled when its transmission begins (R113, R121). -/
def beaconFrame (kind : BeaconKind) (s : State) : List Byte := beaconBytes (beaconFields kind s)

/-- The REPLY frame as it is assembled when it is placed (R114, R122). -/
def replyFrame (r : Reply) (s : State) : List Byte :=
  withCrc <|
    [0x2C#8] ++ serialBytes s.info.serial ++ serialBytes r.asker.reader ++ [r.asker.seq]
      ++ beBytes 1 r.status.code ++ beBytes 1 r.page ++ beBytes 1 r.payload.length ++ r.payload

/-- The transmitter with nothing to serve (R115). Its attempt count is 0 at once, after a drop and after a transmission
too (log 42). -/
def transmitterIdle (s : State) : State :=
  { s with lc := { s.lc with tx := .idle, served := none, attempts := 0, onAir := none } }

/-- The start of a transmission (R118): the served frame leaves its slot, a beacon is assembled and takes its sequence
number (R113), and the 20 ms limit begins. -/
def startTransmission (s : State) : State :=
  match s.lc.served with
  | some .beacon =>
    match s.lc.beaconSlot with
    | some r =>
      { s with
        lc := { s.lc with
          tx := .sending, beaconSlot := none, onAir := some ⟨.beacon, beaconFrame r.kind s⟩
          sequence := (s.lc.sequence + 1) % 256 }
        timers := { s.timers with tx := 80 } }
    | none => transmitterIdle s
  | some .reply =>
    match s.lc.replySlot with
    | some r =>
      { s with
        lc := { s.lc with tx := .sending, replySlot := none, onAir := some ⟨.reply, r.frame⟩ }
        timers := { s.timers with tx := 80 } }
    | none => transmitterIdle s
  | none => transmitterIdle s

/-- A slot emptied. -/
def clearSlot (slot : Slot) (s : State) : State :=
  match slot with
  | .beacon => { s with lc := { s.lc with beaconSlot := none } }
  | .reply => { s with lc := { s.lc with replySlot := none } }

/-- The busy outcome of a sense (R116): the counts, and then the drop at the fourth busy sense, or one step of the
backoff generator (R117) and its period. -/
def senseBusy (s : State) : State :=
  let s1 := counting (fun c => { c with busySenses := bump c.busySenses }) s
  if 4 ≤ s.lc.attempts + 1 then
    match s.lc.served with
    | some slot => dropped slot .busy [] (transmitterIdle (clearSlot slot s1))
    | none => transmitterIdle s1
  else
    let g := lfsrStep s.lc.generator
    { s1 with
      lc := { s1.lc with tx := .backoff, attempts := s.lc.attempts + 1, generator := g }
      timers := { s1.timers with tx := 4 * backoffMs g } }

/-- One sense of the channel for the served frame (R116). -/
def sense (busy : Bool) (s : State) : State := if busy then senseBusy s else startTransmission s

/-- Whether a capture is no later than another. -/
def Capture.notAfter (a b : Capture) : Bool :=
  a.interval < b.interval || (a.interval = b.interval && a.phase ≤ b.phase)

/-- The slot that an IDLE transmitter chooses: the earlier-ready frame, the reply on a tie (R115). -/
def chooseSlot (s : State) : Option Slot :=
  match s.lc.beaconSlot, s.lc.replySlot with
  | none, none => none
  | some _, none => some .beacon
  | none, some _ => some .reply
  | some b, some r => if r.ready.notAfter b.ready then some .reply else some .beacon

/-- An IDLE transmitter serves the slots: it chooses a frame and senses at once (R115). -/
def serve (busy : Bool) (s : State) : State :=
  if s.lc.tx = .idle then
    match chooseSlot s with
    | some slot => sense busy { s with lc := { s.lc with tx := .sense, served := some slot, attempts := 0 } }
    | none => s
  else s

/-- The sense that ends a backoff, and the sense of the other slot's frame when the first drops its frame (R116). -/
def senseAgain (busy busyNext : Bool) (s : State) : State := serve busyNext (sense busy s)

/-- While the transmitter serves a slot in BACKOFF, a new frame in that slot begins its senses anew (R112, R114). -/
def restartAttempts (slot : Slot) (s : State) : State :=
  if s.lc.tx = .backoff ∧ s.lc.served = some slot then { s with lc := { s.lc with attempts := 0 } } else s

/-- A reply offered to the reply slot (R114): discarded at once while the transceiver is off (R107); otherwise placed,
replacing and dropping any reply that waits, and served when the transmitter is IDLE. -/
def placeReply (r : Reply) (busy : Bool) (s : State) : State :=
  if s.lc.enable then
    let placed : PlacedReply := ⟨r, replyFrame r s, s.now⟩
    let s1 := match s.lc.replySlot with
      | some old => restartAttempts .reply (dropped .reply .replaced (serialBytes old.reply.asker.reader) s)
      | none => s
    serve busy { s1 with lc := { s1.lc with replySlot := some placed } }
  else s

/-- A reply without a query page (R145). -/
def answer (who : Asker) (status : Status) (payload : List Byte) (busy : Bool) (s : State) : State :=
  placeReply ⟨who, status, 0, payload⟩ busy s

/-- The codes that a REPLACED beacon drop names (R181). -/
def BeaconKind.code : BeaconKind → Byte
  | .scheduled => 1
  | .alert => 2

/-- A beacon request offered to the beacon slot (R112), discarded at once while the transceiver is off (R107). -/
def requestBeacon (kind : BeaconKind) (busy : Bool) (s : State) : State :=
  if s.lc.enable then
    let s1 := match s.lc.beaconSlot with
      | some old => restartAttempts .beacon (dropped .beacon .replaced [old.kind.code] s)
      | none => s
    serve busy { s1 with lc := { s1.lc with beaconSlot := some ⟨kind, s.now⟩ } }
  else s

/-- A request waiting in the beacon slot is discarded without being counted or noted; a transmitter that was serving it
becomes IDLE and serves the reply slot (R112). -/
def discardBeacon (busy : Bool) (s : State) : State :=
  let s1 := clearSlot .beacon s
  if s.lc.served = some .beacon ∧ s.lc.tx = .backoff then serve busy (transmitterIdle s1) else s1

/-- The transceiver's enable line switched off (R107). -/
def radioOff (s : State) : State :=
  transmitterIdle { s with lc := { s.lc with enable := false, beaconSlot := none, replySlot := none } }

/-- The transceiver's enable line switched on: the transmitter enters its 4 ms WAIT (R107). -/
def radioOn (s : State) : State :=
  { s with lc := { s.lc with enable := true, tx := .wait }, timers := { s.timers with tx := 16 } }

/-- Whether the part's own frame is still being sent at this moment. SENDING lasts until its transmit-complete
indication or for 20 ms (R118), and the spec does not say when in it the frame leaves the air: a free value (log 51). -/
def State.ownFrameOnAir (s : State) : Bool :=
  match s.lc.tx, s.lc.onAir with
  | .sending, some a => Config.freeOnAir a.frame s.now s.timers.tx
  | _, _ => false

/-- Whether the transceiver delivers a received frame: its line is on, it has settled, and the part's own frame is not
on the air (R107, chapter 6.2; log 10). In SENDING with the frame off the air it delivers again, so that a CLOSE can be
accepted there (R13, R118; log 51). -/
def State.hears (s : State) : Bool :=
  s.lc.enable && decide (s.lc.tx ≠ .wait) && !s.ownFrameOnAir

/-! ## Triggers and the start of a burst (R23, R24) -/

/-- Whether the converter discards triggers: HALTED, or with the halt pending (R23, R171). -/
def State.discardsTriggers (s : State) : Bool := s.sf.activity = .halted || s.sf.haltPending

/-- The start of a burst (R24), when the burst state is IDLE and the pending set is nonempty. A waiting LIVE record
becomes the in-flight record when its burst starts (R114). -/
def startBurst (s : State) : State :=
  if s.mc.burst = .idle ∧ s.mc.triggers.nonempty = true then
    { s with
      mc := { s.mc with
        burst := .settling ⟨s.now, s.mc.triggers, s.cu.custody.inService,
          (s.cu.commissioned.map (·.profile.airUse)).getD false⟩
        triggers := Sources.empty }
      lc := if s.mc.triggers.spot && s.lc.liveWaiting.isSome then
          { s.lc with liveInFlight := s.lc.liveWaiting, liveWaiting := none }
        else s.lc
      timers := { s.timers with burst := 8 } }
  else s

/-- A trigger that reaches the converter (R23): it starts a burst, or pends, or is discarded. -/
def trigger (src : Source) (s : State) : State :=
  if s.discardsTriggers then s
  else startBurst { s with mc := { s.mc with triggers := s.mc.triggers.union src.only } }

/-! ## Schedule mode and fast-until (R49 to R53) -/

/-- The mode that R49 selects. -/
def modeFor (supply : Supply) (interval fastUntil : Nat) : Mode :=
  match supply with
  | .good => if interval < fastUntil then .fast else .steady
  | .low | .critical => .lean

/-- A mode selection at a moment other than a boundary: a different mode's period goes into the compare buffer (R49,
R51). -/
def selectMode (s : State) : State :=
  let m := modeFor s.sf.supply s.tb.interval s.tb.fastUntil
  if m = s.tb.mode then s else { s with tb := { s.tb with mode := m, buffer := m.period } }

/-- Fast-until extended to the current interval plus 10, at most 16,777,215; refused while the supply is not GOOD
(R53). At interval number 16,777,215 it is held at that number, and the mode that follows is the one of R49's table,
STEADY, though R53 notes that an extension always selects FAST (DESIGN CHOICE, log 50). -/
def extendFast (s : State) : State :=
  if s.sf.supply = .good then
    selectMode { s with tb := { s.tb with fastUntil := max s.tb.fastUntil (satAdd max24 s.tb.interval 10) } }
  else s

/-- Fast-until cleared to 0, and the mode selected afresh (R53). -/
def clearFast (s : State) : State := selectMode { s with tb := { s.tb with fastUntil := 0 } }

/-- The rise reference, the rise buffer and the alert interval cleared to none (R54). -/
def clearRise (s : State) : State :=
  { s with tb := { s.tb with riseRef := none, riseBuffer := none, alertInterval := none } }

/-! ## The write queue (R125 to R134, R140) -/

/-- The greatest number of records in the write queue (R125). -/
def queueLimit : Nat := 4

/-- Whether the queue holds a checkpoint whose write has not started (R126). -/
def unstartedCheckpoint (q : List QueueRecord) : Bool := q.any (fun r => r = .checkpoint none)

/-- An episode folded into the overflow summary (R134). LOG_FULL is noted at a fold made with 96 episodes stored while
the log-full-noted flag is clear (log 12). -/
def foldEpisode (e : Episode) (s : State) : State :=
  let o := s.es.overflow
  let s1 := { s with es := { s.es with overflow :=
    { folded := satAdd 65535 o.folded 1
      warm := satAdd max24 o.warm ((e.charges.map (·.warm)).getD 0)
      cold := satAdd max24 o.cold ((e.charges.map (·.cold)).getD 0)
      gaps := satAdd max24 o.gaps (if e.kind = .gap then e.count else 0) } } }
  if 96 ≤ s.es.storedCount ∧ s.es.logFullNoted = false then
    noteNow .logFull [2, BitVec.ofNat 8 e.kind.code] { s1 with es := { s1.es with logFullNoted := true } }
  else s1

/-- A checkpoint's content as its owners hold it at this moment (R140). -/
def checkpointContent (s : State) : CheckpointContent where
  interval := s.ie.lastClosed.getD 0
  sequence := s.es.sequence
  custody := s.cu.custody
  causes := s.cu.causes
  breakInterval := s.cu.breakInterval
  custodyStart := s.cu.custodyStart
  counts := s.ie.counts
  gapRun := s.ie.gapRun
  mark := s.ie.mark
  before := s.ie.before
  consensusRun := s.ie.consensusRun
  precoolCount := s.ie.precoolCount
  legCount := s.es.legCount
  openLeg := s.es.openLeg
  overflow := s.es.overflow
  sticky := s.sf.sticky
  fastUntil := s.tb.fastUntil

/-- A checkpoint with the CRC over its fields (R123, R140). -/
def sealCheckpoint (c : CheckpointContent) : Checkpoint := ⟨c, crc16 (Config.checkpointBytes c)⟩

/-- A checkpoint whose CRC agrees (R123). -/
def Checkpoint.valid (c : Checkpoint) : Bool := crc16 (Config.checkpointBytes c.content) == c.crc

/-- The store WRITING the head of this queue for 8 ms (R127). -/
def writing (q : List QueueRecord) (s : State) : State :=
  { s with es := { s.es with state := .writing, queue := q }, timers := { s.timers with store := 32 } }

/-- The store takes up a queue (R127): the head's write starts; an episode that reaches the head with 96 stored is
folded without a write and the next record follows at once (R133); a checkpoint takes its content (R140); the slot that
a checkpoint or a leg is written into no longer holds what it held (R123; log 37). An empty queue leaves the store
IDLE. -/
def writeHead : List QueueRecord → State → State
  | [], s => { s with es := { s.es with state := .idle, queue := [] } }
  | .episode e :: rest, s =>
    if 96 ≤ s.es.storedCount then writeHead rest (foldEpisode e s) else writing (.episode e :: rest) s
  | .checkpoint _ :: rest, s =>
    writing (.checkpoint (some (sealCheckpoint (checkpointContent s))) :: rest)
      { s with nv := { s.nv with checkpoints := s.nv.checkpoints.set s.es.ringPosition none } }
  | .profile r :: rest, s => writing (.profile r :: rest) s
  | .leg l :: rest, s =>
    writing (.leg l :: rest) { s with nv := { s.nv with legs := s.nv.legs.set (l.number - 1) none } }
  | .certificate c :: rest, s => writing (.certificate c :: rest) s

/-- An IDLE store takes up its queue while the activity is RUNNING (R127); while HALTED the queue is held (R130). -/
def startWrites (s : State) : State :=
  if s.es.state = .idle ∧ s.sf.activity = .running then writeHead s.es.queue s else s

/-- A record joins the write queue as its last entry (R125). -/
def joinQueue (r : QueueRecord) (s : State) : State :=
  startWrites { s with es := { s.es with queue := s.es.queue ++ [r] } }

/-- The CRITICAL checkpoint that waits for room is merged, or takes a free place (R129). -/
def admitCritical (s : State) : State :=
  if s.es.criticalWaiting then
    let s1 := { s with es := { s.es with criticalWaiting := false } }
    if unstartedCheckpoint s.es.queue then s1
    else if s.es.queue.length < queueLimit then joinQueue (.checkpoint none) s1
    else s
  else s

/-- Whether a record offered merges with a checkpoint already queued (R126). -/
def QueueRecord.merges (r : QueueRecord) (q : List QueueRecord) : Bool :=
  decide (r = .checkpoint none) && unstartedCheckpoint q

/-- A record refused at a full queue: QUEUE_FULL is noted, an episode is folded, anything else is dropped (R125). A leg
dropped so leaves its slot as it was: empty, or with the older record of that number that a restore opened the leg over
(R138, R177; DESIGN CHOICE, log 45). -/
def refuseRecord (r : QueueRecord) (s : State) : State :=
  let s1 := noteNow .queueFull r.datum s
  match r with
  | .episode e => foldEpisode e s1
  | .profile _ | .leg _ | .checkpoint _ | .certificate _ => s1

/-- A record offered to the store (R125, R126). A CRITICAL checkpoint that waits for room goes before it (R129;
log 24). -/
def offer (r : QueueRecord) (s : State) : State :=
  let s1 := admitCritical s
  if r.merges s1.es.queue then s1
  else if s1.es.queue.length < queueLimit then joinQueue r s1
  else refuseRecord r s1

/-- Records offered in turn. -/
def offerAll : List QueueRecord → State → State
  | [], s => s
  | r :: rest, s => offerAll rest (offer r s)

/-- The head leaves the queue at the end of its write; the next write starts at once while RUNNING (R127). -/
def nextWrite (s : State) : State :=
  if s.sf.activity = .running then writeHead s.es.queue.tail s
  else { s with es := { s.es with state := .idle, queue := s.es.queue.tail } }

/-! ## Closing records and the halt -/

/-- Whether CU can hand over its next closing record now (R14): room in the queue, and for the certificate record every
record ahead of it written or folded. -/
def State.closingReady (s : State) : Bool :=
  s.cu.custody = .closing &&
    match s.cu.closing with
    | [] => false
    | .certificate :: _ => s.es.queue.isEmpty
    | _ :: _ => s.es.queue.length < queueLimit

/-- Whether the store is ready for the halt (R129): its queue is written out after the CRITICAL checkpoint has joined
it, no erase runs, and in CLOSING CU has no closing record left to hand over (R15; log 31). -/
def State.haltReady (s : State) : Bool :=
  s.sf.haltPending && !s.es.criticalWaiting && s.es.queue.isEmpty && s.es.state = .idle
    && decide (s.cu.custody ≠ .closing)

/-! ## The outcome of a command -/

/-- A command's effect while the part has power; without power the part does nothing (log 8). -/
def effect (f : State → State) (s : State) : Host.Outcome State Fault Refusal :=
  .next (if s.powered then f s else s)

/-- A delivered frame's effect, when the transceiver delivers (log 10). -/
def delivered (f : State → State) (s : State) : State := if s.hears then f s else s

end Sys2Proof.Machine
end

