-- ==== Sys2Proof/Machine/Neighbours.lean ====
section
/-! DEFINITION. The neighbour table (chapter 5): taking in a beacon, ageing, the witness and the consensus set. -/

namespace Sys2Proof.Machine

/-- The entry that a beacon gives its sender (R90), heard with this link quality at this moment. -/
def peerOf (b : BeaconFrame) (quality : Byte) (at_ : Capture) (previous : Option Capture) : Peer :=
  let coverage := coverageOfCode b.coverage.toNat
  { serial := b.sender
    compartment := b.compartment.toNat
    leg := b.leg.toNat
    figures :=
      if coverage = .own ∨ coverage = .air ∨ coverage = .witness then
        some ⟨clampTemp (signed16 b.tmax.toNat), clampTemp (signed16 b.tmin.toNat)⟩
      else none
    coverage := coverage
    verdict := b.verdict
    alert := b.flags.getLsbD 0
    raised := b.flags.getLsbD 1
    sensorFault := b.flags.getLsbD 2
    lean := b.flags.getLsbD 3
    quality := quality.toNat
    arrival := at_
    previous := previous
    age := 0 }

/-- The entry with this serial (R91). -/
def findPeer (serial : Serial) : List (Option Peer) → Option Peer
  | [] => none
  | some p :: rest => if p.serial = serial then some p else findPeer serial rest
  | none :: rest => findPeer serial rest

/-- The entry with this serial replaced by another, in its own slot (R92, R94). -/
def replacePeer (serial : Serial) (new : Peer) (table : List (Option Peer)) : List (Option Peer) :=
  table.map fun slot => match slot with
    | some p => if p.serial = serial then some new else some p
    | none => none

/-- The lowest-numbered empty slot filled (R93); `none` when no slot is empty. -/
def fillEmpty (new : Peer) : List (Option Peer) → Option (List (Option Peer))
  | [] => none
  | none :: rest => some (some new :: rest)
  | some p :: rest => (fillEmpty new rest).map (some p :: ·)

/-- Whether `a` gives way before `b`: the greater age, then the lower link quality, then the higher serial (R94). -/
def Peer.yieldsBefore (a b : Peer) : Bool :=
  b.age < a.age
    || (a.age = b.age
      && (a.quality < b.quality || (a.quality = b.quality && b.serial.toNat < a.serial.toNat)))

/-- The entry that R94 replaces, among all entries. -/
def yielding : List (Option Peer) → Option Peer
  | [] => none
  | none :: rest => yielding rest
  | some p :: rest =>
    match yielding rest with
    | none => some p
    | some q => if q.yieldsBefore p then some q else some p

/-- The table after a beacon from another serial (R92 to R95); `none` when the newcomer is refused. -/
def tableAfter (b : BeaconFrame) (quality : Byte) (at_ : Capture) (table : List (Option Peer)) :
    Option (List (Option Peer)) :=
  match findPeer b.sender table with
  | some p => some (replacePeer b.sender (peerOf b quality at_ (some p.arrival)) table)
  | none =>
    let new := peerOf b quality at_ none
    match fillEmpty new table with
    | some t => some t
    | none =>
      match yielding table with
      | some victim => if 0 < victim.age then some (replacePeer victim.serial new table) else none
      | none => none

/-- Whether a heard alert acts: its compartment code is the open leg's (R96, R103). -/
def State.alertMatches (b : BeaconFrame) (s : State) : Bool :=
  b.flags.getLsbD 0 &&
    match s.es.openLeg with
    | some leg => b.compartment.toNat = leg.compartment
    | none => false

/-- A beacon from another serial entered in the table, or refused and noted (R92 to R95). -/
def enterBeacon (b : BeaconFrame) (quality : Byte) (s : State) : State :=
  match tableAfter b quality s.now s.nt with
  | some t => { s with nt := t }
  | none => noteNow .peerOverflow (serialBytes b.sender ++ [quality]) s

/-- A beacon that reaches NT (R91): one with the own serial is discarded and noted; any other is taken into the table
(R92 to R95), and its alert flag acted on (R96). -/
def takeBeacon (b : BeaconFrame) (quality : Byte) (s : State) : State :=
  if b.sender = s.info.serial then
    noteNow .duplicateSerial ([quality] ++ beBytes 2 b.compartment.toNat) s
  else
    let s1 := enterBeacon b quality s
    if s.alertMatches b then extendFast (trigger .alert s1) else s1

/-- One slot's ageing at the close of interval `n` (R97). -/
def ageSlot (n : Nat) : Option Peer → Option Peer
  | none => none
  | some p =>
    if n ≤ p.arrival.interval then some p
    else if 6 ≤ p.age + 1 then none
    else some { p with age := p.age + 1 }

/-- The table's ageing at the close of interval `n` (R97). -/
def ageTable (n : Nat) (table : List (Option Peer)) : List (Option Peer) := table.map (ageSlot n)

/-- Whether an entry was heard in interval `n` (R100, R102). -/
def Peer.heardIn (p : Peer) (n : Nat) : Bool := p.age = 0 && p.arrival.interval = n

/-- Whether an entry is a witness candidate for interval `n` (R100). -/
def Peer.isCandidate (p : Peer) (n compartment floor : Nat) : Bool :=
  p.heardIn n && p.compartment = compartment && p.coverage = .own && !p.raised
    && (2 ≤ p.verdict.toNat && p.verdict.toNat ≤ 5) && floor ≤ p.quality

/-- Whether an entry is in the consensus set of interval `n` (R102). -/
def Peer.inConsensus (p : Peer) (n compartment : Nat) : Bool :=
  p.heardIn n && p.compartment = compartment && p.coverage = .own && !p.raised

/-- Whether `a` is chosen as witness before `b`: the greater Tmax, then the lower serial (R101). -/
def Peer.witnessBefore (a b : Peer) : Bool :=
  let ta := (a.figures.map (·.hi)).getD (-4000)
  let tb := (b.figures.map (·.hi)).getD (-4000)
  tb < ta || (ta = tb && a.serial.toNat < b.serial.toNat)

/-- The entries of the table. -/
def entries (table : List (Option Peer)) : List Peer := table.filterMap id

/-- The witness chosen among candidates (R101). -/
def bestWitness : List Peer → Option Peer
  | [] => none
  | p :: rest =>
    match bestWitness rest with
    | none => some p
    | some q => if q.witnessBefore p then some q else some p

/-- The witness that NT offers for interval `n` (R100, R101, R103); none without an open leg. -/
def witnessFor (n : Nat) (s : State) : Option Peer :=
  match s.es.openLeg with
  | none => none
  | some leg =>
    bestWitness ((entries s.nt).filter (fun p => p.isCandidate n leg.compartment s.profile.qualityFloor))

/-- The Tmax values of the consensus set of interval `n` (R102, R103). -/
def consensusSet (n : Nat) (s : State) : List Int :=
  match s.es.openLeg with
  | none => []
  | some leg =>
    ((entries s.nt).filter (fun p => p.inConsensus n leg.compartment)).map
      (fun p => (p.figures.map (·.hi)).getD 0)

end Sys2Proof.Machine
end

