-- ==== Sys2Proof/Machine/Close.lean ====
section
/-! DEFINITION. The interval close (chapter 4, with R9 to R12 of chapter 1): nine stages, each a function, and the
custody controller's part of it. -/

namespace Sys2Proof.Machine

/-! ## Accumulators (R63, R64) -/

/-- The extremes with one more temperature. -/
def widen (f : Option Figures) (t : Int) : Option Figures :=
  match f with
  | none => some ⟨t, t⟩
  | some x => some ⟨max x.hi t, min x.lo t⟩

/-- The temperature of a valid outcome (R39). -/
def Outcome.temp? : Outcome → Option Int
  | .temp t => some t
  | .ref | .short | .opened | .noisy => none

/-- A burst result folded into an accumulator (R64). -/
def foldResult (r : BurstResult) (acc : Accumulator) : Accumulator :=
  let withP := match r.p.temp? with
    | some t => { acc with p := widen acc.p t, pCount := satAdd 15 acc.pCount 1 }
    | none => acc
  let withA := match r.a.bind Outcome.temp? with
    | some t => { withP with a := widen withP.a t, aCount := satAdd 15 withP.aCount 1 }
    | none => withP
  { withA with bursts := satAdd 15 withA.bursts 1, sources := withA.sources.union r.sources }

/-! ## Stages 1 and 2: coverage and consensus -/

/-- What stage 1 settles (R67, R68). -/
structure Evidence where
  coverage : Coverage
  figures  : Option Figures
  witness  : Option Serial
deriving DecidableEq, Repr

/-- No evidence: GAP. -/
def Evidence.gap : Evidence := ⟨.gap, none, none⟩

/-- Figures widened by a margin and clamped (R68). -/
def widenBy (margin : Int) (f : Figures) : Figures := ⟨clampTemp (f.hi + margin), clampTemp (f.lo - margin)⟩

/-- Coverage cases 4 and 5 of R67: a witness where the profile allows one and NT offers one, or GAP. -/
def witnessEvidence (n : Nat) (s : State) : Evidence :=
  if s.profile.witnessUse then
    match witnessFor n s with
    | some p => ⟨.witness, p.figures.map (widenBy s.profile.witnessMargin), some p.serial⟩
    | none => .gap
  else .gap

/-- Stage 1: the first case of R67's table that applies. -/
def coverageOf (acc : Accumulator) (s : State) : Evidence :=
  if s.sf.activity = .halted then .gap
  else
    match acc.p with
    | some f => ⟨.own, some f, none⟩
    | none =>
      match acc.a with
      | some f =>
        if s.profile.airUse then ⟨.air, some (widenBy s.profile.airMargin f), none⟩
        else witnessEvidence acc.interval s
      | none => witnessEvidence acc.interval s

/-- What stage 2 settles: the consensus run, the figures after any raise, whether the interval is raised, and the
median (R69, R70). -/
structure Consensus where
  run     : Nat
  figures : Option Figures
  raised  : Bool
  median  : Int
deriving DecidableEq, Repr

/-- Stage 2 (R69, R70): the consensus run and the raise of an OWN interval that has read cold five times running. -/
def consensusOf (n : Nat) (ev : Evidence) (s : State) : Consensus :=
  match ev.coverage, ev.figures with
  | .own, some f =>
    let set := consensusSet n s
    let median := medianOf set
    if 3 ≤ set.length ∧ f.hi < median - s.profile.disagreement then
      let run := satAdd 255 s.ie.consensusRun 1
      if 5 ≤ run then ⟨run, some ⟨clampTemp (median - s.profile.disagreement), f.lo⟩, true, median⟩
      else ⟨run, some f, false, median⟩
    else ⟨0, some f, false, median⟩
  | _, _ => ⟨0, ev.figures, false, 0⟩

/-- Stage 2's effect: the run, and PROBE_COLD_SUSPECT when the run has just reached 5 (R70). -/
def applyConsensus (ev : Evidence) (c : Consensus) (s : State) : State :=
  let s1 := { s with ie := { s.ie with consensusRun := c.run } }
  if c.raised = true ∧ c.run = 5 then
    noteNow .probeColdSuspect (tempBytes ((ev.figures.map (·.hi)).getD 0) ++ tempBytes c.median) s1
  else s1

/-! ## Stage 3: charging and gap runs (R71 to R79) -/

/-- Whether a close in PRECOOL starts custody (R9): OWN, with L ≤ Tc and Tw ≤ U, and not the partial close (R13). -/
def startsCustody (partialClose : Bool) (coverage : Coverage) (figures : Option Figures) (s : State) : Bool :=
  s.cu.custody = .precool && !partialClose && coverage = .own &&
    match figures with
    | some f => decide (s.profile.lower ≤ f.lo) && decide (f.hi ≤ s.profile.upper)
    | none => false

/-- Whether a close runs in one of the custody states CHILLED, EXCURSION and BROKEN (R72). -/
def Custody.charges : Custody → Bool
  | .chilled | .excursion | .broken => true
  | .blank | .commissioning | .precool | .closing | .closed | .erasing => false

/-- The own charges of a covered interval (R73). -/
def ownCharges (p : Profile) (f : Figures) : Charges := ⟨(f.hi - p.upper).toNat, (p.lower - f.lo).toNat⟩

/-- The bridge charges of a run of `g` between the figures before it and those after it (R76). -/
def bridgeCharges (p : Profile) (g : Nat) (before : Option Figures) (f : Figures) : Charges :=
  let worse : Figures := match before with
    | some b => ⟨max b.hi f.hi, min b.lo f.lo⟩
    | none => f
  ⟨g * (worse.hi - p.upper).toNat, g * (p.lower - worse.lo).toNat⟩

/-- Charges added to W and C, each stopping at 16,777,215 (R74). -/
def addCharges (a b : Charges) : Charges := ⟨satAdd max24 a.warm b.warm, satAdd max24 a.cold b.cold⟩

/-- What stage 3 settles of a closing interval. `ended` is the length of the gap run that the interval ended, 0 when it
ended none. -/
structure Charged where
  own     : Charges
  bridge  : Option Charges
  ended   : Nat
  marked  : Bool
deriving DecidableEq, Repr

/-- The exposure engine and what stage 3 settles, for a covered custody interval (R72, R73, R76, R77, R78). -/
def chargeCovered (p : Profile) (f : Figures) (ie : ExposureBlock) : ExposureBlock × Charged :=
  let own := ownCharges p f
  if ie.mark then
    ({ ie with
        counts := { ie.counts with unbridged := satAdd max24 ie.counts.unbridged ie.gapRun }
        gapRun := 0, mark := false, exposure := addCharges ie.exposure own, before := some f },
      ⟨own, none, ie.gapRun, false⟩)
  else if 0 < ie.gapRun then
    let bridge := bridgeCharges p ie.gapRun ie.before f
    ({ ie with
        counts := { ie.counts with bridged := satAdd max24 ie.counts.bridged ie.gapRun }
        gapRun := 0, exposure := addCharges (addCharges ie.exposure bridge) own, before := some f },
      ⟨own, some bridge, ie.gapRun, false⟩)
  else ({ ie with exposure := addCharges ie.exposure own, before := some f }, ⟨own, none, 0, false⟩)

/-- The exposure engine and what stage 3 settles, for a GAP custody interval (R75). -/
def chargeGap (p : Profile) (ie : ExposureBlock) : ExposureBlock × Charged :=
  let ie1 :=
    if ie.gapRun < 255 then { ie with gapRun := ie.gapRun + 1 }
    else { ie with counts := { ie.counts with unbridged := satAdd max24 ie.counts.unbridged 1 } }
  if ie1.gapRun = p.gapAllowance + 1 ∧ ie1.mark = false then ({ ie1 with mark := true }, ⟨⟨0, 0⟩, none, 0, true⟩)
  else (ie1, ⟨⟨0, 0⟩, none, 0, false⟩)

/-- A gap run still open after the partial close's stage 3 is counted unbridged (R79); its mark is cleared with it
(log 15). -/
def closeOpenRun (ie : ExposureBlock) : ExposureBlock :=
  { ie with
    counts := { ie.counts with unbridged := satAdd max24 ie.counts.unbridged ie.gapRun }
    gapRun := 0, mark := false }

/-- Stage 3 of a close (R71, R72, R79). A partial interval that is itself GAP enters the run first, and marks it when it
takes the run beyond the allowance (R75); GAP is then a cause of the partial close (R80; log 39). -/
def chargeStage (partialClose : Bool) (figures : Option Figures) (s : State) : ExposureBlock × Charged :=
  if s.cu.custody.charges then
    let r := match figures with
      | some f => chargeCovered s.profile f s.ie
      | none => chargeGap s.profile s.ie
    if partialClose then (closeOpenRun r.1, r.2) else r
  else
    (match figures with
      | some f => { s.ie with before := some f }
      | none => s.ie,
      ⟨⟨0, 0⟩, none, 0, false⟩)

/-! ## Stages 4 to 6: break checks, counts, record -/

/-- The break causes that a custody close shows (R80), with W and C after the charges of stage 3. -/
def breakChecks (p : Profile) (figures : Option Figures) (exposure : Charges) (marked : Bool) : Causes where
  peak := match figures with
    | some f => decide (p.peak ≤ f.hi)
    | none => false
  warmBudget := decide (p.warmBudget < exposure.warm)
  coldBudget := decide (p.coldBudget < exposure.cold)
  gap := marked
  precool := false
  powerLoss := false

/-- The coverage counts after a custody interval (R81). Each stops at 16,777,215 (log 27). -/
def countInterval (coverage : Coverage) (raised : Bool) (c : Counts) : Counts :=
  match coverage with
  | .own => { c with own := satAdd max24 c.own 1, raised := satAdd max24 c.raised raised.toNat }
  | .air => { c with air := satAdd max24 c.air 1 }
  | .witness => { c with witness := satAdd max24 c.witness 1 }
  | .gap | .none => c

/-- A record joins the ring as its newest, the oldest giving way when 64 are held (R83). The list holds the newest
first. -/
def pushHistory (r : IntervalRecord) (history : List IntervalRecord) : List IntervalRecord := (r :: history).take 64

/-! ## Stage 7: episodes and leg (R84 to R87, R136) -/

/-- A new open episode of a kind, on this leg, at interval `n` (R131, R132). -/
def openEpisode (kind : EpisodeKind) (leg n : Nat) : Episode :=
  ⟨kind, none, leg, n, none, 0, 0, 0, none, 0, 0, none, Causes.empty, false⟩

/-- An episode closed at an end interval (R131, R132). -/
def Episode.closeAt (e : Episode) (finish : Nat) : Episode :=
  { e with finish := some finish, count := finish - e.start + 1 }

/-- The EXCURSION episode after an interval that opens or extends it (R84). The charges stop at 16,777,215 (log 27). -/
def extendExcursion (open_ : Option Episode) (leg n : Nat) (f : Figures) (own : Charges) : Episode :=
  match open_ with
  | none => { openEpisode .excursion leg n with warmPeak := f.hi, coldLow := f.lo, charges := some own }
  | some e =>
    { e with
      warmPeak := max e.warmPeak f.hi, coldLow := min e.coldLow f.lo
      charges := some (addCharges (e.charges.getD ⟨0, 0⟩) own) }

/-- The EXCURSION place after a custody close, and the episode it ended (R84). -/
def excursionStage (leg n : Nat) (figures : Option Figures) (own : Charges) (open_ : Option Episode) :
    Option Episode × Option Episode :=
  match figures with
  | none => (open_, none)
  | some f =>
    if own.warm = 0 ∧ own.cold = 0 then (none, open_.map (·.closeAt (n - 1)))
    else (some (extendExcursion open_ leg n f own), none)

/-- The GAP place after a custody close, and the episode it ended (R85). -/
def gapStage (leg n : Nat) (figures : Option Figures) (bridge : Option Charges) (open_ : Option Episode) :
    Option Episode × Option Episode :=
  match figures with
  | none => (some (open_.getD (openEpisode .gap leg n)), none)
  | some _ => (none, open_.map (fun e => { e.closeAt (n - 1) with charges := bridge }))

/-- The COVER place after a custody close, and the episode it ended (R86). -/
def coverStage (leg n : Nat) (ev : Evidence) (open_ : Option Episode) : Option Episode × Option Episode :=
  let e := open_.getD (openEpisode .cover leg n)
  match ev.coverage with
  | .own => (none, open_.map (·.closeAt (n - 1)))
  | .air => (some { e with airCount := satAdd max24 e.airCount 1 }, none)
  | .witness =>
    (some { e with
      witnessCount := satAdd max24 e.witnessCount 1
      firstWitness := match e.firstWitness with
        | some w => some w
        | none => ev.witness }, none)
  | .gap | .none => (open_, none)

/-- A custody interval's figures and charges added into the open leg (R136). -/
def addToLeg (coverage : Coverage) (figures : Option Figures) (own : Charges) (bridge : Option Charges) (l : Leg) :
    Leg :=
  let counted := match coverage with
    | .own => { l with own := satAdd max24 l.own 1 }
    | .air => { l with air := satAdd max24 l.air 1 }
    | .witness => { l with witness := satAdd max24 l.witness 1 }
    | .gap | .none => { l with gap := satAdd max24 l.gap 1 }
  { counted with
    figures := match figures with
      | some f => (match l.figures with
        | some g => some ⟨max g.hi f.hi, min g.lo f.lo⟩
        | none => some f)
      | none => l.figures
    charges := addCharges (addCharges l.charges own) (bridge.getD ⟨0, 0⟩) }

/-- The number of the current leg, 0 when none is open. -/
def State.legNumber (s : State) : Nat := (s.es.openLeg.map (·.number)).getD 0

/-- Stage 7 of a custody close: the episodes that the close ended are offered in the order EXCURSION, GAP, COVER, and
the interval is added into the open leg (R87, R88). -/
def episodeStage (n : Nat) (ev : Evidence) (c : Charged) (s : State) : State :=
  let ex := excursionStage s.legNumber n ev.figures c.own s.es.openExcursion
  let gp := gapStage s.legNumber n ev.figures c.bridge s.es.openGap
  let cv := coverStage s.legNumber n ev s.es.openCover
  offerAll ((ex.2.toList ++ gp.2.toList ++ cv.2.toList).map QueueRecord.episode)
    { s with es := { s.es with
        openExcursion := ex.1, openGap := gp.1, openCover := cv.1
        openLeg := s.es.openLeg.map (addToLeg ev.coverage ev.figures c.own c.bridge) } }

/-! ## Stage 8: custody (R3, R9 to R12) -/

/-- The BREAK episode (R11, R131): both its intervals are the break interval. -/
def breakEpisode (leg n : Nat) (causes : Causes) : Episode :=
  { openEpisode .brk leg n with finish := some n, count := 1, causes := causes }

/-- Causes entering the break cause set at the close of interval `n` (R3, R11): the first members move the state to
BROKEN, fix the break interval and request the BREAK episode. -/
def addCauses (new : Causes) (n : Nat) (s : State) : State :=
  if new.nonempty then
    if s.cu.causes.nonempty then { s with cu := { s.cu with causes := s.cu.causes.union new } }
    else
      offer (.episode (breakEpisode s.legNumber n new))
        { s with cu := { s.cu with causes := new, breakInterval := some n, custody := .broken } }
  else s

/-- Stage 8 in PRECOOL (R9): custody starts, or the precool counter advances and may run out. The partial close does
neither (R13). -/
def precoolStage (partialClose starts : Bool) (n : Nat) (s : State) : State :=
  if partialClose then s
  else if starts then { s with cu := { s.cu with custody := .chilled, custodyStart := some n } }
  else
    let s1 := { s with ie := { s.ie with precoolCount := satAdd 240 s.ie.precoolCount 1 } }
    if s1.ie.precoolCount = s.profile.precoolLimit then addCauses { Causes.empty with precool := true } n s1 else s1

/-- Stage 8 in CHILLED, EXCURSION and BROKEN (R10 to R12). -/
def custodyStage (own : Charges) (found : Causes) (n : Nat) (s : State) : State :=
  let s1 := addCauses found n s
  if s1.cu.custody = .broken then s1
  else
    { s1 with cu := { s1.cu with
        custody := if own.warm = 0 ∧ own.cold = 0 then .chilled else .excursion } }

/-! ## The whole close -/

/-- The interval record of stage 6 (R82). Its mode is the one in force when the close runs, also where a deferred close
runs after the mode has changed since its boundary (DESIGN CHOICE, log 47). -/
def intervalRecord (partialClose : Bool) (acc : Accumulator) (ev : Evidence) (raised : Bool) (c : Charged) (s : State) :
    IntervalRecord where
  interval := acc.interval
  coverage := ev.coverage
  figures := ev.figures
  bursts := acc.bursts
  pCount := acc.pCount
  sources := acc.sources
  witness := ev.witness
  raised := raised
  own := c.own
  bridge := c.bridge
  mode := s.tb.mode
  halted := s.sf.activity = .halted
  partialClose := partialClose

/-- Stage 9 (R88): the periodic checkpoint, the beacon content and the neighbour table's ageing. -/
def handOn (partialClose : Bool) (acc : Accumulator) (ev : Evidence) (raised : Bool) (s : State) : State :=
  let s1 := if acc.interval % 15 = 14 ∧ partialClose = false then offer (.checkpoint none) s else s
  { s1 with
    lc := { s1.lc with
      content := some (BeaconContent.mk acc.interval ev.coverage ev.figures raised (acc.pCount = 0) s1.cu.custody) }
    nt := ageTable acc.interval s1.nt }

/-- The consensus of a closing interval (stage 2). -/
def closeConsensus (acc : Accumulator) (s : State) : Consensus := consensusOf acc.interval (coverageOf acc s) s

/-- The coverage, figures and witness of a closing interval after stages 1 and 2. -/
def closeEvidence (acc : Accumulator) (s : State) : Evidence :=
  { coverageOf acc s with figures := (closeConsensus acc s).figures }

/-- The part after stage 2. -/
def afterConsensus (acc : Accumulator) (s : State) : State :=
  applyConsensus (coverageOf acc s) (closeConsensus acc s) s

/-- Whether the close starts custody (R9). -/
def closeStarts (partialClose : Bool) (acc : Accumulator) (s : State) : Bool :=
  startsCustody partialClose (closeEvidence acc s).coverage (closeEvidence acc s).figures s

/-- Whether the interval closed is a custody interval (R72). -/
def isCustodyInterval (partialClose : Bool) (acc : Accumulator) (s : State) : Bool :=
  s.cu.custody.charges || closeStarts partialClose acc s

/-- The exposure engine after stage 3, and what that stage settles. -/
def closeCharges (partialClose : Bool) (acc : Accumulator) (s : State) : ExposureBlock × Charged :=
  chargeStage partialClose (closeEvidence acc s).figures (afterConsensus acc s)

/-- The exposure engine after stage 5. -/
def closeCounted (partialClose : Bool) (acc : Accumulator) (s : State) : ExposureBlock :=
  let ie := (closeCharges partialClose acc s).1
  if isCustodyInterval partialClose acc s then
    { ie with counts := countInterval (closeEvidence acc s).coverage (closeConsensus acc s).raised ie.counts }
  else ie

/-- The part after stage 6. -/
def afterRecord (partialClose : Bool) (acc : Accumulator) (s : State) : State :=
  let s2 := afterConsensus acc s
  let ie := closeCounted partialClose acc s
  let record := intervalRecord partialClose acc (closeEvidence acc s) (closeConsensus acc s).raised
    (closeCharges partialClose acc s).2 s2
  { s2 with ie := { ie with history := pushHistory record ie.history, lastClosed := some acc.interval } }

/-- The part after stage 7. -/
def afterEpisodes (partialClose : Bool) (acc : Accumulator) (s : State) : State :=
  if isCustodyInterval partialClose acc s then
    episodeStage acc.interval (closeEvidence acc s) (closeCharges partialClose acc s).2 (afterRecord partialClose acc s)
  else afterRecord partialClose acc s

/-- The break causes that stage 4 of the close finds (R80). -/
def closeFound (partialClose : Bool) (acc : Accumulator) (s : State) : Causes :=
  let r := closeCharges partialClose acc s
  breakChecks s.profile (closeEvidence acc s).figures r.1.exposure r.2.marked

/-- The part after stage 8. -/
def afterCustody (partialClose : Bool) (acc : Accumulator) (s : State) : State :=
  let s7 := afterEpisodes partialClose acc s
  if s.cu.custody.charges then
    custodyStage (closeCharges partialClose acc s).2.own (closeFound partialClose acc s) acc.interval s7
  else precoolStage partialClose (closeStarts partialClose acc s) acc.interval s7

/-- The close of the interval that an accumulator gathers, through the nine stages of R66 in their order. -/
def closeInterval (partialClose : Bool) (acc : Accumulator) (s : State) : State :=
  handOn partialClose acc (closeEvidence acc s) (closeConsensus acc s).raised (afterCustody partialClose acc s)

/-- A deferred close, when one waits (R65): it runs, and its accumulator is then discarded (R63). -/
def runDeferred (s : State) : State :=
  match s.ie.old with
  | some acc =>
    let s1 := closeInterval false acc s
    { s1 with ie := { s1.ie with old := none } }
  | none => s

/-- The partial close of the current interval at the acceptance of CLOSE (R13, R65): its accumulator is discarded and
none is opened. -/
def partialCloseNow (s : State) : State :=
  match s.ie.cur with
  | some acc =>
    let s1 := closeInterval true acc s
    { s1 with ie := { s1.ie with cur := none } }
  | none => s

/-- Whether a burst with its credit present that started in interval `n` is in flight (R65). -/
def State.creditedInFlight (n : Nat) (s : State) : Bool :=
  match s.mc.burst with
  | .idle => false
  | .settling f | .converting f _ => f.credit && f.start.interval = n

/-- An interval boundary passed to IE (R63, R65): the accumulator of the new interval is opened, and the close of the old
one runs at once, or is deferred behind a credited burst in flight. A close that still waits from an earlier boundary
runs first (log 21). -/
def boundaryToExposure (s : State) : State :=
  if s.cu.custody.inService then
    let s0 := runDeferred s
    let s1 := { s0 with ie := { s0.ie with old := s0.ie.cur, cur := some (Accumulator.empty s0.tb.interval) } }
    match s1.ie.old with
    | some acc => if s1.creditedInFlight acc.interval then s1 else runDeferred s1
    | none => s1
  else s

end Sys2Proof.Machine
end

