-- ==== Sys2Proof/Machine/Certificate.lean ====
section
/-! DEFINITION. The chill certificate (chapter 9): its content, its grade, its two pages and its CRC. -/

namespace Sys2Proof.Machine

/-- A closed leg record of this number waiting in the write queue (R154, R163). -/
def queuedLeg (k : Nat) : List QueueRecord → Option Leg
  | [] => none
  | .leg l :: rest => if l.number = k then some l else queuedLeg k rest
  | .profile _ :: rest | .episode _ :: rest | .checkpoint _ :: rest | .certificate _ :: rest => queuedLeg k rest

/-- The closed leg that CU has still to hand over among its closing records: it is found as queued (R161; log 23). -/
def closingLeg (k : Nat) : List ClosingItem → Option Leg
  | [] => none
  | .leg l :: rest => if l.number = k then some l else closingLeg k rest
  | .episode _ :: rest | .checkpoint :: rest | .certificate :: rest => closingLeg k rest

/-- Where a leg record is found (R154). -/
inductive LegPlace where
  | opened (l : Leg)
  | stored (l : Leg)
  | queued (l : Leg)
  | notStored
deriving DecidableEq, Repr

/-- Where the leg record of number `k` is found (R154, R163): the open leg first, then a queued record, then the slot, and
one record alone, so that an older record in the slot of a leg that a restore opened again does not count while the
newer one is open or queued (DESIGN CHOICE, log 49). A record in the slot counts as stored, an older one of the same
number too when the newer was dropped at a full queue (DESIGN CHOICE, log 45). -/
def legPlace (k : Nat) (s : State) : LegPlace :=
  match s.es.openLeg.filter (fun l => l.number = k) with
  | some l => .opened l
  | none =>
    match (queuedLeg k s.es.queue).orElse (fun _ => closingLeg k s.cu.closing) with
    | some l => .queued l
    | none =>
      match (s.nv.legs[k - 1]?).join with
      | some l => .stored l
      | none => .notStored

/-- The record found, wherever it stands (R163). -/
def LegPlace.leg? : LegPlace → Option Leg
  | .opened l | .stored l | .queued l => some l
  | .notStored => none

/-- The leg records that the certificate finds, for numbers 1 to the leg count; `none` for one not found (R163). -/
def legsFound (s : State) : List (Option Leg) :=
  (List.range s.es.legCount).map (fun k => (legPlace (k + 1) s).leg?)

/-- The larger extremes of two pairs of figures, either of which may be absent (R163). -/
def joinFigures : Option Figures → Option Figures → Option Figures
  | some f, some g => some ⟨max f.hi g.hi, min f.lo g.lo⟩
  | some f, none => some f
  | none, g => g

/-- The overall Tmax and Tmin (R163). -/
def overallFigures (legs : List (Option Leg)) : Option Figures :=
  legs.foldl (fun acc l => joinFigures acc (l.bind (·.figures))) none

/-- The grade, from the certificate's own fields (R164). -/
def gradeOf (custodyStart : Option Nat) (causes : Causes) (counts : Counts) (gapRun : Nat) : Grade :=
  if custodyStart.isNone then .notStarted
  else if causes.nonempty then .broken
  else if counts.air = 0 ∧ counts.witness = 0 ∧ counts.bridged = 0 ∧ counts.unbridged = 0 ∧ counts.lost = 0
      ∧ counts.raised = 0 ∧ gapRun = 0 then .clean
  else .supported

/-- The certificate as its owners' fields give it at this moment (R160, R162, R163). Its sticky set is the one of this
moment, with a PEER_OVERFLOW noted in CLOSING before the freeze (R99, R165; DESIGN CHOICE, log 48). -/
def computeCertificate (provisional : Bool) (s : State) : Certificate where
  serial := s.info.serial
  consignment := (s.cu.commissioned.map (·.consignment)).getD []
  carrier := s.profile.carrier
  grade := gradeOf s.cu.custodyStart s.cu.causes s.ie.counts s.ie.gapRun
  provisional := provisional
  custodyStart := s.cu.custodyStart
  endInterval := s.ie.lastClosed
  causes := s.cu.causes
  breakInterval := s.cu.breakInterval
  exposure := s.ie.exposure
  budgets := ⟨s.profile.warmBudget, s.profile.coldBudget⟩
  counts := s.ie.counts
  gapRun := s.ie.gapRun
  figures := overallFigures (legsFound s)
  legCount := s.es.legCount
  legsNotStored := (legsFound s).countP (·.isNone)
  episodes := s.es.storedCount + s.es.overflow.folded
  sticky := s.sf.sticky

/-- The presence flags byte (R167). -/
def Certificate.presence (c : Certificate) : Byte :=
  flagByte [c.provisional, c.custodyStart.isSome, c.endInterval.isSome, c.breakInterval.isSome, c.figures.isSome]

/-- Page A's 41 content bytes (R167). -/
def Certificate.contentA (c : Certificate) : List Byte :=
  serialBytes c.serial ++ beBytes 1 c.consignment.length
    ++ (c.consignment ++ List.replicate 16 0).take 16
    ++ beBytes 2 c.carrier ++ beBytes 1 c.grade.code ++ [c.presence]
    ++ optional3 c.custodyStart ++ optional3 c.endInterval ++ [c.causes.byte] ++ optional3 c.breakInterval
    ++ beBytes 3 c.exposure.warm ++ beBytes 3 c.exposure.cold

/-- Page B's 40 content bytes (R167). -/
def Certificate.contentB (c : Certificate) : List Byte :=
  beBytes 3 c.budgets.warm ++ beBytes 3 c.budgets.cold
    ++ beBytes 3 c.counts.own ++ beBytes 3 c.counts.air ++ beBytes 3 c.counts.witness ++ beBytes 3 c.counts.bridged
    ++ beBytes 3 c.counts.unbridged ++ beBytes 3 c.counts.lost ++ beBytes 3 c.counts.raised
    ++ beBytes 1 c.gapRun ++ figureBytes c.figures
    ++ beBytes 1 c.legCount ++ beBytes 1 c.legsNotStored ++ beBytes 3 c.episodes ++ stickyBytes c.sticky

/-- The certificate CRC over page A's content followed by page B's (R168). -/
def Certificate.crc (c : Certificate) : BitVec 16 := crc16 (c.contentA ++ c.contentB)

/-- Page A: its content and the certificate CRC (R167). -/
def Certificate.pageA (c : Certificate) : List Byte := c.contentA ++ beBytes 2 c.crc.toNat

/-- Page B: its content and the certificate CRC (R167). -/
def Certificate.pageB (c : Certificate) : List Byte := c.contentB ++ beBytes 2 c.crc.toNat

/-- The certificate that a CERT page is taken from (R156, R161, R166): in CLOSED the record, or the copy in retention
when its write failed; otherwise computed afresh and provisional. -/
def certificateNow (s : State) : Certificate :=
  if s.cu.custody = .closed then
    match s.nv.certificate with
    | some c => c
    | none => s.cu.certificate.getD (computeCertificate false s)
  else computeCertificate true s

end Sys2Proof.Machine
end

