-- ==== Sys2Proof/Machine/Pages.lean ====
section
/-! DEFINITION. The payloads of the QUERY pages and of the command replies (R20, R149, R152 to R155, R157, R183). -/

namespace Sys2Proof.Machine

/-! ## The profile (R20) -/

/-- The options byte: air use in bit 0, witness use in bit 1, the others zero (R20). -/
def Profile.options (p : Profile) : Byte := flagByte [p.airUse, p.witnessUse]

/-- The 30 bytes of the profile's fields (R20). -/
def Profile.bytes (p : Profile) : List Byte :=
  tempBytes p.upper ++ tempBytes p.lower ++ tempBytes p.peak
    ++ beBytes 4 p.warmBudget ++ beBytes 4 p.coldBudget
    ++ beBytes 1 p.gapAllowance ++ beBytes 1 p.precoolLimit ++ [p.options]
    ++ tempBytes p.airMargin ++ tempBytes p.witnessMargin ++ beBytes 1 p.qualityFloor
    ++ tempBytes p.riseThreshold ++ tempBytes p.disagreement
    ++ beBytes 2 p.compartment ++ beBytes 2 p.carrier

/-- One byte giving the consignment ID's length, then the ID (R20, R147). -/
def idBytes (id : List Byte) : List Byte := beBytes 1 id.length ++ id

/-- The stored profile with the consignment ID ahead of it (R20, R154). -/
def ProfileRecord.bytes (r : ProfileRecord) : List Byte := idBytes r.consignment ++ r.profile.bytes

/-- The unsigned field of `k` bytes at an offset. -/
def fieldAt (bs : List Byte) (at_ k : Nat) : Nat := ofBytes ((bs.drop at_).take k)

/-- The signed 2-byte field at an offset. -/
def signedAt (bs : List Byte) (at_ : Nat) : Int := signed16 (fieldAt bs at_ 2)

/-- The profile that 30 payload bytes spell, as sent (R20). -/
def profileOf (bs : List Byte) : Profile where
  upper := signedAt bs 0
  lower := signedAt bs 2
  peak := signedAt bs 4
  warmBudget := fieldAt bs 6 4
  coldBudget := fieldAt bs 10 4
  gapAllowance := fieldAt bs 14 1
  precoolLimit := fieldAt bs 15 1
  airUse := (BitVec.ofNat 8 (fieldAt bs 16 1)).getLsbD 0
  witnessUse := (BitVec.ofNat 8 (fieldAt bs 16 1)).getLsbD 1
  airMargin := signedAt bs 17
  witnessMargin := signedAt bs 19
  qualityFloor := fieldAt bs 21 1
  riseThreshold := signedAt bs 22
  disagreement := signedAt bs 24
  compartment := fieldAt bs 26 2
  carrier := fieldAt bs 28 2

/-- Every field with a range clamped into it (R21, step 4). -/
def Profile.clamped (p : Profile) : Profile :=
  let upper := clampTo (-3000) 3000 p.upper
  { p with
    upper := upper
    lower := clampTo (-3000) 3000 p.lower
    peak := clampTo (upper + 50) 4000 p.peak
    warmBudget := min p.warmBudget 1000000
    coldBudget := min p.coldBudget 1000000
    gapAllowance := min p.gapAllowance 15
    precoolLimit := max 1 (min p.precoolLimit 240)
    airMargin := clampTo 0 300 p.airMargin
    witnessMargin := clampTo 0 300 p.witnessMargin
    riseThreshold := clampTo 10 500 p.riseThreshold
    disagreement := clampTo 50 500 p.disagreement }

/-- The check of a COMMISSION payload (R21, steps 2 to 5): the stored values with the consignment ID, or a refusal. -/
def checkProfile (payload : List Byte) : Option ProfileRecord :=
  let n := fieldAt payload 0 1
  let sent := profileOf (payload.drop (1 + n))
  let p := sent.clamped
  if 1 ≤ n ∧ n ≤ 16 ∧ sent.compartment ≠ 0 ∧ 50 ≤ p.upper - p.lower then
    some ⟨p, (payload.drop 1).take n⟩
  else none

/-! ## Records (R152) -/

/-- An episode record in 34 bytes (R152). -/
def Episode.bytes (e : Episode) : List Byte :=
  beBytes 1 e.kind.code
    ++ [flagByte [e.index.isSome, e.finish.isSome, e.charges.isSome, e.firstWitness.isSome, e.lostUnknown]]
    ++ beBytes 1 (e.index.getD 0) ++ beBytes 1 e.leg
    ++ beBytes 3 e.start ++ optional3 e.finish ++ beBytes 3 e.count
    ++ tempBytes e.warmPeak ++ tempBytes e.coldLow ++ chargeBytes e.charges
    ++ beBytes 3 e.airCount ++ beBytes 3 e.witnessCount ++ serialBytes (e.firstWitness.getD 0) ++ [e.causes.byte]

/-- A leg record in 38 bytes (R152). -/
def Leg.bytes (l : Leg) : List Byte :=
  beBytes 1 l.number ++ [flagByte [l.finish.isSome, l.figures.isSome]]
    ++ beBytes 2 l.compartment ++ beBytes 2 l.carrier ++ beBytes 3 l.start ++ optional3 l.finish
    ++ figureBytes l.figures ++ beBytes 3 l.charges.warm ++ beBytes 3 l.charges.cold
    ++ beBytes 3 l.own ++ beBytes 3 l.air ++ beBytes 3 l.witness ++ beBytes 3 l.gap ++ serialBytes l.reader

/-- An interval record of the history ring in 26 bytes (R152). -/
def IntervalRecord.bytes (r : IntervalRecord) : List Byte :=
  beBytes 3 r.interval ++ beBytes 1 r.coverage.code
    ++ [flagByte [r.raised, r.mode = .fast, r.mode = .lean, r.halted, r.partialClose, r.witness.isSome,
          r.bridge.isSome]]
    ++ figureBytes r.figures ++ beBytes 1 r.bursts ++ beBytes 1 r.pCount ++ [r.sources.byte]
    ++ serialBytes (r.witness.getD 0) ++ beBytes 2 r.own.warm ++ beBytes 2 r.own.cold ++ chargeBytes r.bridge

/-- A slot of the neighbour table: 27 bytes with an entry, its flag byte alone when empty (R152). -/
def slotBytes : Option Peer → List Byte
  | none => [0]
  | some p =>
    [flagByte [true, p.figures.isSome, p.previous.isSome]] ++ serialBytes p.serial ++ beBytes 2 p.compartment
      ++ beBytes 1 p.leg ++ figureBytes p.figures ++ beBytes 1 p.coverage.code ++ [p.verdict]
      ++ [flagByte [p.alert, p.raised, p.sensorFault, p.lean]] ++ beBytes 1 p.quality
      ++ p.arrival.bytes ++ (p.previous.getD ⟨0, 0⟩).bytes ++ beBytes 1 p.age

/-- An open record of the OPEN page, or the indication that none is open (R152). -/
def openBytes (record : Option (List Byte)) : List Byte :=
  match record with
  | some bs => 1 :: bs
  | none => [0]

/-! ## The pages (R153 to R156, R183); `none` where the index is out of range (R151) -/

/-- The PROFILE page; empty where no profile is held (R154). -/
def profilePage (s : State) : List Byte := (s.cu.commissioned.map (·.bytes)).getD []

/-- The LEG page of an index in 1..leg count (R154). -/
def legPage (index : Nat) (s : State) : Option (List Byte) :=
  if 1 ≤ index ∧ index ≤ s.es.legCount then
    some (match legPlace index s with
      | .opened l => 0 :: l.bytes
      | .stored l => 1 :: l.bytes
      | .queued l => 2 :: l.bytes
      | .notStored => [3])
  else none

/-- The EPISODE page of an index in 0..stored count − 1 (R154). -/
def episodePage (index : Nat) (s : State) : Option (List Byte) :=
  if index < s.es.storedCount then (s.nv.episodes[index]?).join.map (·.bytes) else none

/-- The OPEN page of an index in 0..3 (R154). -/
def openPage (index : Nat) (s : State) : Option (List Byte) :=
  match index with
  | 0 => some (openBytes (s.es.openExcursion.map (·.bytes)))
  | 1 => some (openBytes (s.es.openGap.map (·.bytes)))
  | 2 => some (openBytes (s.es.openCover.map (·.bytes)))
  | 3 => some (openBytes (s.es.openLeg.map (·.bytes)))
  | _ => none

/-- The OVERFLOW page (R154). -/
def overflowPage (s : State) : List Byte :=
  beBytes 2 s.es.overflow.folded ++ beBytes 3 s.es.overflow.warm ++ beBytes 3 s.es.overflow.cold
    ++ beBytes 3 s.es.overflow.gaps

/-- The HISTORY page of an index, 0 being the newest record (R154). -/
def historyPage (index : Nat) (s : State) : Option (List Byte) := (s.ie.history[index]?).map (·.bytes)

/-- The PEERS page of a slot (R104). -/
def peersPage (index : Nat) (s : State) : Option (List Byte) := (s.nt[index]?).map slotBytes

/-- The FAULTS page (R183). -/
def faultsPage (s : State) : List Byte :=
  stickyBytes s.sf.sticky ++ beBytes 1 s.sf.unread ++ [flagByte [s.sf.context.isSome, s.sf.multiple]]
    ++ match s.sf.context with
      | some c => beBytes 1 c.code.number ++ beBytes 3 c.interval ++ beBytes 2 c.phase ++ c.datum
      | none => List.replicate 14 0

/-- STATUS index 0: custody, supply, time, exposure, legs, store and faults, 37 bytes (R153). -/
def statusPage0 (s : State) : List Byte :=
  beBytes 1 s.cu.custody.code ++ [s.cu.causes.byte]
    ++ [flagByte [s.cu.breakInterval.isSome, s.cu.custodyStart.isSome, s.es.openLeg.isSome]]
    ++ optional3 s.cu.breakInterval ++ optional3 s.cu.custodyStart ++ beBytes 1 s.ie.precoolCount
    ++ beBytes 1 s.sf.supply.code ++ beBytes 1 s.sf.activity.code
    ++ beBytes 3 s.tb.interval ++ beBytes 2 s.tb.phase ++ beBytes 1 s.tb.mode.code ++ beBytes 3 s.tb.fastUntil
    ++ beBytes 3 s.ie.exposure.warm ++ beBytes 3 s.ie.exposure.cold
    ++ beBytes 1 s.es.legCount
    ++ beBytes 1 ((s.es.openLeg.map (·.number)).getD 0)
    ++ beBytes 2 ((s.es.openLeg.map (·.compartment)).getD 0)
    ++ beBytes 2 ((s.es.openLeg.map (·.carrier)).getD 0)
    ++ beBytes 1 s.es.state.code ++ beBytes 1 s.es.queue.length ++ beBytes 1 s.es.storedCount
    ++ beBytes 1 s.sf.unread

/-- STATUS index 1: coverage and measurement, 36 bytes (R153). -/
def statusPage1 (s : State) : List Byte :=
  beBytes 3 s.ie.counts.own ++ beBytes 3 s.ie.counts.air ++ beBytes 3 s.ie.counts.witness
    ++ beBytes 3 s.ie.counts.bridged ++ beBytes 3 s.ie.counts.unbridged ++ beBytes 3 s.ie.counts.raised
    ++ beBytes 3 s.ie.counts.lost
    ++ beBytes 1 s.ie.gapRun ++ [flagByte [s.ie.mark, s.mc.last.isSome]] ++ beBytes 1 s.ie.consensusRun
    ++ match s.mc.last with
      | some r => r.start.bytes ++ outcomeBytes (some r.p) ++ outcomeBytes r.a ++ [rangeByte r.pRange r.aRange]
      | none => List.replicate 12 0

/-- A rise reference or buffer of the STATUS page, zero when none (R153). -/
def riseBytes (r : Option RisePoint) : List Byte :=
  match r with
  | some x => x.at_.bytes ++ tempBytes x.temp
  | none => List.replicate 7 0

/-- The ten link counters in the order of R119's table. -/
def LinkCounters.bytes (c : LinkCounters) : List Byte :=
  beBytes 2 c.receivedGood ++ beBytes 2 c.crcErrors ++ beBytes 2 c.beaconsTaken ++ beBytes 2 c.commandsTaken
    ++ beBytes 2 c.discarded ++ beBytes 2 c.beaconsSent ++ beBytes 2 c.repliesSent ++ beBytes 2 c.beaconsDropped
    ++ beBytes 2 c.repliesDropped ++ beBytes 2 c.busySenses

/-- STATUS index 2: rise detector and link, 35 bytes (R153). -/
def statusPage2 (s : State) : List Byte :=
  [flagByte [s.tb.riseRef.isSome, s.tb.riseBuffer.isSome]] ++ riseBytes s.tb.riseRef ++ riseBytes s.tb.riseBuffer
    ++ s.lc.counters.bytes

/-- The STATUS page of an index in 0..2 (R153). -/
def statusPage (index : Nat) (s : State) : Option (List Byte) :=
  match index with
  | 0 => some (statusPage0 s)
  | 1 => some (statusPage1 s)
  | 2 => some (statusPage2 s)
  | _ => none

/-! ## Reply payloads -/

/-- The 12 bytes describing the open leg in a HANDOVER's answer (R149). -/
def legAnswer (l : Leg) : List Byte :=
  beBytes 1 l.number ++ beBytes 2 l.compartment ++ beBytes 2 l.carrier ++ beBytes 3 l.start ++ serialBytes l.reader

/-- The 13 bytes of a LIVE reply (R157). -/
def liveAnswer (r : BurstResult) : List Byte :=
  r.start.bytes ++ [r.sources.byte] ++ outcomeBytes (some r.p) ++ outcomeBytes r.a ++ [rangeByte r.pRange r.aRange]

end Sys2Proof.Machine
end

