-- ==== Sys2Proof/Machine/Reader.lean ====
section
/-! DEFINITION. The reader commands (chapter 8, with R5, R13, R17 and R110): COMMISSION, HANDOVER, QUERY, LIVE, CLOSE
and ERASE, and the examination that each passes first. -/

namespace Sys2Proof.Machine

/-- The kinds of reader command (R122). -/
inductive CommandKind where
  | commission | handover | query | live | close | erase
deriving DecidableEq, Repr

/-! ## COMMISSION -/

/-- Leg 1 as commissioning opens it (R5). -/
def firstLeg (p : Profile) (reader : Serial) : Leg :=
  ⟨1, p.compartment, p.carrier, 0, none, none, ⟨0, 0⟩, 0, 0, 0, 0, reader⟩

/-- A COMMISSION whose check accepts it (R5): profile and ID into retention, leg 1 open, the profile record queued,
COMMISSIONING entered, and the command kept as the held answer (R146). -/
def acceptCommission (who : Asker) (r : ProfileRecord) (s : State) : State :=
  offer (.profile r)
    { s with
      cu := { s.cu with commissioned := some r, custody := .commissioning, held := some who }
      es := { s.es with openLeg := some (firstLeg r.profile who.reader), legCount := 1 } }

/-- A COMMISSION that passes R110: checked in BLANK (R21, R5, R147), NOT_BLANK elsewhere with the consignment ID. -/
def takeCommission (who : Asker) (payload : List Byte) (busy : Bool) (s : State) : State :=
  if s.cu.custody = .blank then
    match checkProfile payload with
    | some r => acceptCommission who r s
    | none => answer who .badProfile [] busy s
  else answer who .notBlank (idBytes ((s.cu.commissioned.map (·.consignment)).getD [])) busy s

/-! ## HANDOVER -/

/-- The next leg of an accepted handover (R137). -/
def nextLeg (l : Leg) (compartment carrier n : Nat) (reader : Serial) : Leg :=
  ⟨l.number + 1, compartment, carrier, n, none, none, ⟨0, 0⟩, 0, 0, 0, 0, reader⟩

/-- An accepted handover to the next leg (R137): the open leg closes at the current interval and is offered, and the
next leg opens. -/
def openNextLeg (l : Leg) (compartment carrier : Nat) (reader : Serial) (s : State) : State :=
  offer (.leg { l with finish := some s.tb.interval })
    { s with es := { s.es with
        openLeg := some (nextLeg l compartment carrier s.tb.interval reader), legCount := s.es.legCount + 1 } }

/-- The expected-leg rule of R149 against the open leg `l`: the answer and its effect. -/
def judgeHandover (l : Leg) (compartment carrier expected : Nat) (reader : Serial) (s : State) : Status × State :=
  if expected = l.number then
    if compartment = l.compartment ∧ carrier = l.carrier then (.ok, s) else (.legMismatch, s)
  else if expected = l.number + 1 then
    if 16 ≤ s.es.legCount then (.legsFull, s) else (.ok, openNextLeg l compartment carrier reader s)
  else (.legMismatch, s)

/-- A HANDOVER that passes R110 (R148, R149). -/
def takeHandover (who : Asker) (payload : List Byte) (busy : Bool) (s : State) : State :=
  if s.cu.custody.inService then
    if fieldAt payload 0 2 = 0 then answer who .badProfile [] busy s
    else
      match s.es.openLeg with
      | some l =>
        let r := judgeHandover l (fieldAt payload 0 2) (fieldAt payload 2 2) (fieldAt payload 4 1) who.reader s
        answer who r.1 ((r.2.es.openLeg.map legAnswer).getD []) busy r.2
      | none => answer who .legMismatch [] busy s
  else if s.cu.custody = .closed then answer who .closed [] busy s
  else answer who .notCommissioned [] busy s

/-! ## QUERY -/

/-- The fault status after its page is read: the context empty, the multiple flag clear, the unread count 0 (R155). -/
def clearFaultDetail (s : State) : State :=
  { s with sf := { s.sf with context := none, multiple := false, unread := 0 } }

/-- An answer with a page's content (R145, R151). -/
def answerPage (who : Asker) (page : Nat) (payload : List Byte) (busy : Bool) (s : State) : State :=
  placeReply ⟨who, .ok, page, payload⟩ busy s

/-- An indexed page: its content, or BAD_INDEX (R151, step 3). -/
def answerIndexed (who : Asker) (page : Nat) (payload : Option (List Byte)) (busy : Bool) (s : State) : State :=
  match payload with
  | some bs => answerPage who page bs busy s
  | none => answer who .badIndex [] busy s

/-- A page without content in BLANK (R151, step 2). -/
def inCustody (who : Asker) (busy : Bool) (s : State) (page : State) : State :=
  if s.cu.custody = .blank then answer who .notCommissioned [] busy s else page

/-- The FAULTS page: its payload is formed, the detail is emptied, and the reply is placed (R155, R183; log 13). -/
def answerFaults (who : Asker) (busy : Bool) (s : State) : State :=
  answerPage who 10 (faultsPage s) busy (clearFaultDetail s)

/-- A QUERY that passes R110, by its page code and index (R151 to R156). Each page is formed before its reply is placed,
so before the drop of a reply that it replaces is noted (log 13). -/
def takeQuery (who : Asker) (page index : Nat) (busy : Bool) (s : State) : State :=
  match page with
  | 1 => inCustody who busy s (answerPage who 1 (certificateNow s).pageA busy s)
  | 2 => inCustody who busy s (answerPage who 2 (certificateNow s).pageB busy s)
  | 3 => answerPage who 3 (profilePage s) busy s
  | 4 => inCustody who busy s (answerIndexed who 4 (legPage index s) busy s)
  | 5 => inCustody who busy s (answerIndexed who 5 (episodePage index s) busy s)
  | 6 => inCustody who busy s (answerIndexed who 6 (openPage index s) busy s)
  | 7 => inCustody who busy s (answerPage who 7 (overflowPage s) busy s)
  | 8 => inCustody who busy s (answerIndexed who 8 (historyPage index s) busy s)
  | 9 => answerIndexed who 9 (peersPage index s) busy s
  | 10 => answerFaults who busy s
  | 11 => answerIndexed who 11 (statusPage index s) busy s
  | _ => answer who .badIndex [] busy s

/-! ## LIVE -/

/-- A LIVE record kept (R114): in flight when its trigger starts a burst at once, waiting when it pends; a waiting
record already present gives way and counts as a dropped reply. -/
def recordLive (who : Asker) (s : State) : State :=
  if s.mc.burst = .idle then { s with lc := { s.lc with liveInFlight := some who } }
  else
    let s1 := match s.lc.liveWaiting with
      | some old => dropped .reply .replaced (serialBytes old.reader) s
      | none => s
    { s1 with lc := { s1.lc with liveWaiting := some who } }

/-- A LIVE that passes R110 (R157). -/
def takeLive (who : Asker) (busy : Bool) (s : State) : State :=
  if s.cu.custody = .closed then answer who .closed [] busy s else trigger .spot (recordLive who s)

/-! ## CLOSE -/

/-- The pending LIVE reply at an abort (R30, R114): the waiting record is answered ABORTED, or else the in-flight one; an
in-flight record left behind counts as a dropped reply (log 14). -/
def abortLive (busy : Bool) (s : State) : State :=
  let gone := { s with lc := { s.lc with liveInFlight := none, liveWaiting := none } }
  match s.lc.liveWaiting, s.lc.liveInFlight with
  | some w, some f => dropped .reply .replaced (serialBytes f.reader) (answer w .aborted [] busy gone)
  | some w, none => answer w .aborted [] busy gone
  | none, some f => answer f .aborted [] busy gone
  | none, none => s

/-- A burst in flight is aborted without a result and the pending set is emptied (R29, R30); with the burst state IDLE
the converter is left as it is. -/
def abortBurst (busy : Bool) (s : State) : State :=
  let idle := { s with mc := { s.mc with burst := .idle, triggers := Sources.empty } }
  match s.mc.burst with
  | .idle => s
  | .settling f | .converting f _ =>
    if f.sources.spot || s.mc.triggers.spot then abortLive busy idle else idle

/-- The open episodes closed at the partial interval, in the order EXCURSION, GAP, COVER (R13, R14); an open GAP has no
charges (R79). -/
def openEpisodesClosed (n : Nat) (s : State) : List ClosingItem :=
  ((s.es.openExcursion.toList ++ s.es.openGap.toList ++ s.es.openCover.toList).map (·.closeAt n)).map ClosingItem.episode

/-- The closing records in R14's order: the closed episodes, the closed leg, the final checkpoint, the certificate. -/
def closingRecords (n : Nat) (s : State) : List ClosingItem :=
  openEpisodesClosed n s ++ (s.es.openLeg.map (fun l => ClosingItem.leg { l with finish := some n })).toList
    ++ [.checkpoint, .certificate]

/-- Steps 4 and 5 of R13: episodes and leg closed, the neighbour table cleared, an unsent beacon discarded, CLOSING
entered, and the command kept as the held answer (R146, R158). -/
def enterClosing (who : Asker) (busy : Bool) (s : State) : State :=
  discardBeacon busy
    { s with
      cu := { s.cu with custody := .closing, closing := closingRecords s.tb.interval s, held := some who }
      es := { s.es with openExcursion := none, openGap := none, openCover := none, openLeg := none }
      nt := emptyTable }

/-- The acceptance of CLOSE (R13), its five steps in order. -/
def acceptClose (who : Asker) (busy : Bool) (s : State) : State :=
  enterClosing who busy (partialCloseNow (runDeferred (abortBurst busy s)))

/-- A CLOSE that passes R110 (R158). -/
def takeClose (who : Asker) (busy : Bool) (s : State) : State :=
  if s.cu.custody.inService then acceptClose who busy s
  else if s.cu.custody = .closed then answerPage who 1 (certificateNow s).pageA busy s
  else answer who .notCommissioned [] busy s

/-! ## ERASE -/

/-- The start of an erase (R17, R143): the marker, ERASING for 400 ms, and the held answer (R146, R159). -/
def startErase (who : Asker) (s : State) : State :=
  { s with
    cu := { s.cu with custody := .erasing }
    es := { s.es with state := .erasing, held := some who }
    nv := { s.nv with eraseMarker := true }
    timers := { s.timers with store := 1600 } }

/-- An ERASE that passes R110 (R159). -/
def takeErase (who : Asker) (busy : Bool) (s : State) : State :=
  if s.cu.custody = .closed then startErase who s
  else if s.cu.custody = .blank then answer who .ok [] busy s
  else answer who .notClosed [] busy s

/-! ## The examination of R110 -/

/-- Whether a command of this kind is answered BUSY before its length is examined (R110, step 4). -/
def busyState (kind : CommandKind) (c : Custody) : Bool :=
  match c with
  | .commissioning | .erasing => true
  | .closing => decide (kind ≠ .query)
  | .blank | .precool | .chilled | .excursion | .broken | .closed => false

/-- Whether a payload has the length its kind requires (R110). -/
def lengthFits (kind : CommandKind) (payload : List Byte) : Bool :=
  match kind with
  | .commission => 1 ≤ payload.length && payload.length = 31 + fieldAt payload 0 1
  | .handover => payload.length = 5
  | .query => payload.length = 2
  | .live | .close | .erase => payload.isEmpty

/-- The dispatch of a taken command to its owner (R110, step 6). -/
def dispatchCommand (kind : CommandKind) (who : Asker) (payload : List Byte) (busy : Bool) (s : State) : State :=
  match kind with
  | .commission => takeCommission who payload busy s
  | .handover => takeHandover who payload busy s
  | .query => takeQuery who (fieldAt payload 0 1) (fieldAt payload 1 1) busy s
  | .live => takeLive who busy s
  | .close => takeClose who busy s
  | .erase => takeErase who busy s

/-- A reader command frame examined in R110's order, from its addressing on. -/
def examineCommand (kind : CommandKind) (f : CommandFrame) (busy : Bool) (s : State) : State :=
  let who : Asker := ⟨f.reader, f.seq⟩
  if f.target ≠ s.info.serial then counting (fun c => { c with discarded := bump c.discarded }) s
  else
    let s1 := counting (fun c => { c with commandsTaken := bump c.commandsTaken }) s
    if busyState kind s.cu.custody then answer who .busy [] busy s1
    else if f.length.toNat = f.payload.length ∧ f.payload.length ≤ 48 ∧ lengthFits kind f.payload = true then
      dispatchCommand kind who f.payload busy s1
    else answer who .badLength [] busy s1

/-- A frame that passed the CRC check is counted (R108). -/
def countGood (s : State) : State := counting (fun c => { c with receivedGood := bump c.receivedGood }) s

/-- A reader command frame delivered with its CRC agreeing (R108 to R110). -/
def receiveCommand (kind : CommandKind) (f : CommandFrame) (busy : Bool) (s : State) : State :=
  delivered (fun s => examineCommand kind f busy (countGood s)) s

/-- A QUERY frame of a page, as the command frame it is (R122, R151). -/
def queryCommand (q : QueryFrame) (page : Byte) : CommandFrame :=
  ⟨q.reader, q.target, q.seq, 2, [page, q.index]⟩

/-- A QUERY delivered with its CRC agreeing, for a page code. -/
def receiveQuery (q : QueryFrame) (page : Byte) (busy : Bool) (s : State) : State :=
  receiveCommand .query (queryCommand q page) busy s

/-! ## The meanings -/

/-- COMMISSION (R5, R21, R110, R147). -/
def execCommission (f : CommandFrame) (busy : Bool) (s : State) : Host.Outcome State Fault Refusal :=
  effect (receiveCommand .commission f busy) s

/-- HANDOVER (R110, R148 to R150). -/
def execHandover (f : CommandFrame) (busy : Bool) (s : State) : Host.Outcome State Fault Refusal :=
  effect (receiveCommand .handover f busy) s

/-- QUERY of page CERT_A (R110, R151, R156). -/
def execQueryCertA (q : QueryFrame) (busy : Bool) (s : State) : Host.Outcome State Fault Refusal :=
  effect (receiveQuery q 1 busy) s

/-- QUERY of page CERT_B (R110, R151, R156). -/
def execQueryCertB (q : QueryFrame) (busy : Bool) (s : State) : Host.Outcome State Fault Refusal :=
  effect (receiveQuery q 2 busy) s

/-- QUERY of page PROFILE (R110, R151, R154). -/
def execQueryProfile (q : QueryFrame) (busy : Bool) (s : State) : Host.Outcome State Fault Refusal :=
  effect (receiveQuery q 3 busy) s

/-- QUERY of page LEG (R110, R151, R154). -/
def execQueryLeg (q : QueryFrame) (busy : Bool) (s : State) : Host.Outcome State Fault Refusal :=
  effect (receiveQuery q 4 busy) s

/-- QUERY of page EPISODE (R110, R151, R154). -/
def execQueryEpisode (q : QueryFrame) (busy : Bool) (s : State) : Host.Outcome State Fault Refusal :=
  effect (receiveQuery q 5 busy) s

/-- QUERY of page OPEN (R110, R151, R154). -/
def execQueryOpen (q : QueryFrame) (busy : Bool) (s : State) : Host.Outcome State Fault Refusal :=
  effect (receiveQuery q 6 busy) s

/-- QUERY of page OVERFLOW (R110, R151, R154). -/
def execQueryOverflow (q : QueryFrame) (busy : Bool) (s : State) : Host.Outcome State Fault Refusal :=
  effect (receiveQuery q 7 busy) s

/-- QUERY of page HISTORY (R110, R151, R154). -/
def execQueryHistory (q : QueryFrame) (busy : Bool) (s : State) : Host.Outcome State Fault Refusal :=
  effect (receiveQuery q 8 busy) s

/-- QUERY of page PEERS (R104, R110, R151). -/
def execQueryPeers (q : QueryFrame) (busy : Bool) (s : State) : Host.Outcome State Fault Refusal :=
  effect (receiveQuery q 9 busy) s

/-- QUERY of page FAULTS (R110, R151, R155, R183). -/
def execQueryFaults (q : QueryFrame) (busy : Bool) (s : State) : Host.Outcome State Fault Refusal :=
  effect (receiveQuery q 10 busy) s

/-- QUERY of page STATUS (R110, R151, R153). -/
def execQueryStatus (q : QueryFrame) (busy : Bool) (s : State) : Host.Outcome State Fault Refusal :=
  effect (receiveQuery q 11 busy) s

/-- QUERY of a page code that names no page (R110, R151). -/
def execQueryBadPage (q : QueryFrame) (page : Byte) (busy : Bool) (s : State) : Host.Outcome State Fault Refusal :=
  effect (receiveQuery q page busy) s

/-- LIVE (R110, R114, R157). -/
def execLive (f : CommandFrame) (busy : Bool) (s : State) : Host.Outcome State Fault Refusal :=
  effect (receiveCommand .live f busy) s

/-- CLOSE (R13, R110, R158). -/
def execClose (f : CommandFrame) (busy : Bool) (s : State) : Host.Outcome State Fault Refusal :=
  effect (receiveCommand .close f busy) s

/-- ERASE (R17, R110, R143, R159). -/
def execErase (f : CommandFrame) (busy : Bool) (s : State) : Host.Outcome State Fault Refusal :=
  effect (receiveCommand .erase f busy) s

end Sys2Proof.Machine
end

