-- ==== Sys2Proof/Machine/Measure.lean ====
section
/-! DEFINITION. The measurement chain (chapter 2) with the rise detector (R54 to R57): SETTLING_END and
CONVERSION_END. -/

namespace Sys2Proof.Machine

/-! ## From codes to a burst result (R31 to R39, R43) -/

/-- A sensor fault that a burst notes, with its datum (R43). -/
structure SensorNote where
  code  : FaultCode
  datum : List Byte
deriving DecidableEq, Repr

/-- What a burst's codes say of one channel: its outcome, its range flag and its note. -/
structure Reading where
  outcome : Outcome
  range   : Option RangeFlag
  note    : Option SensorNote
deriving DecidableEq, Repr

/-- The channels of a thermistor (chapter 2). -/
inductive Channel where
  | p | a
deriving DecidableEq, Repr

/-- The reading of a channel whose check finds a fault (R33, R43). -/
def faultReading (ch : Channel) : ChannelFault → Reading
  | .short c => ⟨.short, none, some ⟨if ch = .p then .pShort else .aShort, beBytes 2 c⟩⟩
  | .opened c => ⟨.opened, none, some ⟨if ch = .p then .pOpen else .aOpen, beBytes 2 c⟩⟩
  | .noisy d => ⟨.noisy, none, some ⟨if ch = .p then .pNoisy else .aNoisy, beBytes 2 d⟩⟩

/-- The note of a range flag: the channel and its ratio (R37, R43). -/
def rangeNote (ch : Channel) (q : Nat) : RangeFlag → SensorNote
  | .low => ⟨.rangeLow, (if ch = .p then 0 else 1) :: beBytes 2 q⟩
  | .high => ⟨.rangeHigh, (if ch = .p then 0 else 1) :: beBytes 2 q⟩

/-- The reading of one converted channel with its four codes (R33 to R38). -/
def channelReading (ch : Channel) (codes : List Nat) (rref : Nat) (trim : Int) : Reading :=
  match channelCheck codes with
  | some fault => faultReading ch fault
  | none =>
    let q := normalisedRatio (trimmedSum codes) rref
    let t := tableTemp q
    ⟨.temp (trimmedTemp t.1 trim), t.2, t.2.map (rangeNote ch q)⟩

/-- The result of a burst and the notes it makes, in R43's order, from its codes in conversion order (R25). -/
def formResult (info : Info) (f : Flight) (codes : List Nat) : BurstResult × List SensorNote :=
  let r1 := codes.headD 0
  let r2 := codes.getLastD 0
  if referencePasses r1 r2 then
    let rref := referenceCode r1 r2
    let p := channelReading .p ((codes.drop 1).take 4) rref info.pTrim
    if f.air then
      let a := channelReading .a ((codes.drop 5).take 4) rref info.aTrim
      (⟨f.start, f.sources, f.credit, p.outcome, some a.outcome, p.range, a.range⟩, p.note.toList ++ a.note.toList)
    else (⟨f.start, f.sources, f.credit, p.outcome, none, p.range, none⟩, p.note.toList)
  else
    (⟨f.start, f.sources, f.credit, .ref, if f.air then some .ref else none, none, none⟩,
      [⟨.refFault, beBytes 2 r1 ++ beBytes 2 r2⟩])

/-- The burst's notes taken in order, with the interval and phase of its start capture (R43). -/
def noteAll (at_ : Capture) : List SensorNote → State → State
  | [], s => s
  | x :: rest, s => noteAll at_ rest (note x.code at_ x.datum s)

/-! ## The rise detector (R55 to R57) -/

/-- A rise event (R56, R57): fast-until is extended, and an alert beacon requested once per interval. -/
def riseEvent (busy : Bool) (n : Nat) (s : State) : State :=
  let s1 := extendFast s
  if s1.tb.alertInterval = some n then s1
  else requestBeacon .alert busy { s1 with tb := { s1.tb with alertInterval := some n } }

/-- The elapsed time between two captures in milliseconds (R55). -/
def elapsedMs (from_ to_ : Capture) : Int :=
  60000 * ((to_.interval : Int) - from_.interval) + to_.phase - from_.phase

/-- The rise detector takes a credited result (R55). -/
def riseDetect (busy : Bool) (r : BurstResult) (s : State) : State :=
  match r.p.temp? with
  | none => s
  | some t =>
    match s.tb.riseRef with
    | none => { s with tb := { s.tb with riseRef := some ⟨r.start, t⟩ } }
    | some ref =>
      let dt := elapsedMs ref.at_ r.start
      if dt < 5000 then s
      else
        let s1 :=
          if s.profile.riseThreshold ≤ warmingRate t ref.temp dt then riseEvent busy r.start.interval s else s
        { s1 with tb := { s1.tb with riseBuffer := some ref, riseRef := some ⟨r.start, t⟩ } }

/-! ## Delivery (R40, R41) -/

/-- A result folded into an accumulator of its start interval (R64). -/
def foldInto (r : BurstResult) (acc : Option Accumulator) : Option Accumulator :=
  acc.map (fun a => if a.interval = r.start.interval then foldResult r a else a)

/-- A credited result handed to IE (R40): folded, and then the deferred close of its interval run. -/
def deliverToExposure (r : BurstResult) (s : State) : State :=
  let s1 := { s with ie := { s.ie with old := foldInto r s.ie.old, cur := foldInto r s.ie.cur } }
  match s1.ie.old with
  | some acc => if acc.interval = r.start.interval then runDeferred s1 else s1
  | none => s1

/-- A result that served SPOT answers the in-flight LIVE record (R41, R114, R157). -/
def answerLive (busy : Bool) (r : BurstResult) (s : State) : State :=
  match s.lc.liveInFlight with
  | some who => answer who .ok (liveAnswer r) busy { s with lc := { s.lc with liveInFlight := none } }
  | none => s

/-- A result delivered: to IE and the rise detector when its credit is present, to the LIVE reply when it served SPOT
(R40, R41). The two are served in R41's turn: an IDLE transmitter senses for the alert beacon of a rise event before the
reply of the same completion is placed, which then waits behind it (DESIGN CHOICE, log 44). -/
def deliver (busy : Bool) (r : BurstResult) (s : State) : State :=
  let s1 := if r.credit then riseDetect busy r (deliverToExposure r s) else s
  if r.sources.spot then answerLive busy r s1 else s1

/-- The completion of a burst (R26): the result is formed and noted, kept, delivered; the converter becomes IDLE; and a
nonempty pending set starts the next burst at once. -/
def completeBurst (busy : Bool) (f : Flight) (codes : List Nat) (s : State) : State :=
  let r := formResult s.info f codes
  let s1 := noteAll f.start r.2 s
  let s2 := { s1 with mc := { s1.mc with last := some r.1 } }
  let s3 := deliver busy r.1 s2
  startBurst { s3 with mc := { s3.mc with burst := .idle } }

/-- How many conversions a burst takes: ten when it converts channel A, six when it does not (R25). -/
def Flight.conversions (f : Flight) : Nat := if f.air then 10 else 6

/-- The end of settling (R25): the first 250 µs conversion begins. -/
def settlingEnds (s : State) : State :=
  match s.mc.burst with
  | .settling f => { s with mc := { s.mc with burst := .converting f [] }, timers := { s.timers with burst := 1 } }
  | .idle | .converting _ _ => s

/-- The end of a conversion (R25): its code is taken, and the next conversion begins or the burst completes. -/
def conversionEnds (code : Code) (busy : Bool) (s : State) : State :=
  match s.mc.burst with
  | .converting f codes =>
    let taken := codes ++ [code]
    if taken.length < f.conversions then
      { s with mc := { s.mc with burst := .converting f taken }, timers := { s.timers with burst := 1 } }
    else completeBurst busy f (taken.map BitVec.toNat) s
  | .idle | .settling _ => s

/-- SETTLING_END (R25). With no burst settling the event does not arise, and nothing changes (log 3). -/
def execSettlingEnd (s : State) : Host.Outcome State Fault Refusal := effect settlingEnds s

/-- CONVERSION_END (R25 to R43, R55 to R57). With no conversion under way nothing changes (log 3). -/
def execConversionEnd (code : Code) (busy : Bool) (s : State) : Host.Outcome State Fault Refusal :=
  effect (conversionEnds code busy) s

end Sys2Proof.Machine
end

