-- ==== Sys2Proof/Machine/Supply.lean ====
section
/-! DEFINITION. Supply monitoring and the halt (chapter 10): SUPPLY_LOW, SUPPLY_GOOD, SUPPLY_CRITICAL,
SUPPLY_RECOVER, HALT_READY and RETENTION_LOSS. -/

namespace Sys2Proof.Machine

/-- The supply state set and the mode selected afresh (R49, R169). -/
def setSupply (x : Supply) (s : State) : State := selectMode { s with sf := { s.sf with supply := x } }

/-- The change from GOOD to LOW (R170): fast-until cleared, LEAN selected, SUPPLY_LOW noted. -/
def fallToLow (s : State) : State :=
  noteNow .supplyLow [] (clearFast { s with sf := { s.sf with supply := .low } })

/-- Falling below 2.50 V (R169, R170): from GOOD alone. -/
def supplyFallsLow (s : State) : State := if s.sf.supply = .good then fallToLow s else s

/-- The radio's and the rise detector's part of a recovery (R173, steps 2 and 4). -/
def resume (s : State) : State := clearRise (radioOn s)

/-- No further compare match in the current interval: a recovery from HALTED takes its first scheduled burst at phase 0
of the next one (R52, R173; log 41). -/
def clearCompare (s : State) : State := { s with tb := { s.tb with compare := none } }

/-- The change from CRITICAL to LOW (R173): a halted part recovers; with the halt pending the writing-out runs on
(R174). -/
def riseToLow (s : State) : State :=
  let s1 := setSupply .low s
  if s1.sf.activity = .halted then
    clearCompare (clearRise (startWrites (radioOn { s1 with sf := { s1.sf with activity := .running } })))
  else s1

/-- Rising above 2.35 V (R169): from CRITICAL alone. -/
def supplyRecovers (s : State) : State := if s.sf.supply = .critical then riseToLow s else s

/-- Rising above 2.60 V (R169, R170): from LOW, and from CRITICAL through LOW (log 25). -/
def supplyRisesGood (s : State) : State :=
  match s.sf.supply with
  | .good => s
  | .low => setSupply .good s
  | .critical => setSupply .good (riseToLow s)

/-- The CRITICAL checkpoint offered in PRECOOL, CHILLED, EXCURSION and BROKEN: it waits while the queue is full (R129). -/
def offerCritical (s : State) : State :=
  if s.cu.custody.inService then admitCritical { s with es := { s.es with criticalWaiting := true } } else s

/-- Steps 1 to 4 of the CRITICAL entry in R171's order: the abort with any deferred close, the radio off, the neighbour
table cleared, the CRITICAL checkpoint offered. An IDLE transmitter senses for the ABORTED reply of step 1 at once, so
that a busy channel counts a sense and steps the backoff generator, before step 2 takes the reply from it (R30, R115;
DESIGN CHOICE, log 46). -/
def enterHaltPending (busy : Bool) (s : State) : State :=
  let s1 := radioOff (runDeferred (abortBurst busy { s with sf := { s.sf with haltPending := true } }))
  offerCritical { s1 with nt := emptyTable }

/-- The change from LOW to CRITICAL (R171); with the halt already pending its steps are not repeated (R174). -/
def fallToCritical (busy : Bool) (s : State) : State :=
  let s1 := setSupply .critical s
  if s1.sf.haltPending then s1 else enterHaltPending busy s1

/-- Falling below 2.20 V (R169): from LOW, and from GOOD through LOW (log 25). -/
def supplyFallsCritical (busy : Bool) (s : State) : State :=
  match s.sf.supply with
  | .good => fallToCritical busy (fallToLow s)
  | .low => fallToCritical busy s
  | .critical => s

/-- The store reports ready (R171 step 5, R174): the part halts, or stays RUNNING with its supply risen. -/
def halts (s : State) : State :=
  if s.haltReady then
    if s.sf.supply = .critical then
      noteNow .supplyCritical [1] { s with sf := { s.sf with activity := .halted, haltPending := false } }
    else
      resume { noteNow .supplyCritical [0] s with
        sf := { (noteNow .supplyCritical [0] s).sf with haltPending := false } }
  else s

/-- Everything outside the store lost (R172): what is left is the information store, the areas, and the commands still
outside the part; nothing runs until power returns (log 8). A write in progress is cut short: its slot holds no
completed record (R130, R123). -/
def withoutPower (s : State) : State where
  info := s.info
  cu := CustodyBlock.blank
  mc := ConverterBlock.blank
  tb := TimebaseBlock.start s.info.serial 0 0 .lean
  ie := ExposureBlock.blank
  nt := emptyTable
  lc := LinkBlock.start s.info.serial false
  es := StoreBlock.blank
  nv := s.nv
  sf := SupplyBlock.start .critical .halted
  powered := false
  timers := ⟨0, 0, 0⟩
  inputs := s.inputs
  pending := s.pending

/-- SUPPLY_LOW (R170). -/
def execSupplyLow (s : State) : Host.Outcome State Fault Refusal := effect supplyFallsLow s

/-- SUPPLY_GOOD (R170). -/
def execSupplyGood (s : State) : Host.Outcome State Fault Refusal := effect supplyRisesGood s

/-- SUPPLY_CRITICAL (R171). -/
def execSupplyCritical (busy : Bool) (s : State) : Host.Outcome State Fault Refusal :=
  effect (supplyFallsCritical busy) s

/-- SUPPLY_RECOVER (R173, R174). -/
def execSupplyRecover (s : State) : Host.Outcome State Fault Refusal := effect supplyRecovers s

/-- HALT_READY (R171 step 5, R174). While the store is not ready nothing changes. -/
def execHaltReady (s : State) : Host.Outcome State Fault Refusal := effect halts s

/-- RETENTION_LOSS (R172). -/
def execRetentionLoss (s : State) : Host.Outcome State Fault Refusal := effect withoutPower s

end Sys2Proof.Machine
end

