-- ==== Sys2Proof/Machine/PowerOn.lean ====
section
/-! DEFINITION. POWER_ON and the restore from the evidence store (R175 to R178, R182, with R60, R62, R111, R141). -/

namespace Sys2Proof.Machine

/-! ## What the store holds -/

/-- The supply state and the activity from the voltage at power-on (R169). -/
def supplyAt (millivolts : Nat) : Supply × Activity :=
  if 2600 ≤ millivolts then (.good, .running)
  else if 2350 ≤ millivolts then (.low, .running)
  else (.critical, .halted)

/-- The stored episode count: complete slots counted upward from index 0 as far as the first empty one (R175). -/
def countStored : List (Option Episode) → Nat
  | some _ :: rest => countStored rest + 1
  | none :: _ => 0
  | [] => 0

/-- The records in a list of slots. -/
def inSlots {α : Type} (slots : List (Option α)) : List α := slots.filterMap id

/-- The valid checkpoints with their slots, from a slot number on (R123, R141). -/
def validFrom (k : Nat) : List (Option Checkpoint) → List (Nat × CheckpointContent)
  | some c :: rest => if c.valid then (k, c.content) :: validFrom (k + 1) rest else validFrom (k + 1) rest
  | none :: rest => validFrom (k + 1) rest
  | [] => []

/-- The valid checkpoints of the store. -/
def Areas.valid (nv : Areas) : List (Nat × CheckpointContent) := validFrom 0 nv.checkpoints

/-- Whether a checkpoint is newer than another: the greater interval number, then the greater sequence (R141). -/
def CheckpointContent.newer (a b : CheckpointContent) : Bool :=
  b.interval < a.interval || (a.interval = b.interval && b.sequence < a.sequence)

/-- The newest of a list of checkpoints with their slots (R141): of two with equal interval and sequence, the one in the
lower slot (log 43). -/
def newest : List (Nat × CheckpointContent) → Option (Nat × CheckpointContent)
  | [] => none
  | c :: rest =>
    match newest rest with
    | none => some c
    | some d => if d.2.newer c.2 then some d else some c

/-- The checkpoint that the restore uses: the newest valid one. -/
def Areas.used (nv : Areas) : Option CheckpointContent := (newest nv.valid).map (·.2)

/-- The ring position and the sequence after the newest valid checkpoint; 0 and 0 with none (R141). -/
def ringAfter (c : Option (Nat × CheckpointContent)) : Nat × Nat :=
  match c with
  | some (k, x) => ((k + 1) % 8, satAdd max24 x.sequence 1)
  | none => (0, 0)

/-- The start and end intervals of the stored episodes and legs. -/
def Areas.intervals (nv : Areas) : List Nat :=
  (inSlots nv.episodes).flatMap (fun e => e.start :: e.finish.toList)
    ++ (inSlots nv.legs).flatMap (fun l => l.start :: l.finish.toList)

/-- One more than the greatest of the interval numbers found, held at 16,777,215; 1 when there is none (R175, R176;
log 36). -/
def intervalAfter (found : List Nat) : Nat := satAdd max24 (found.foldl max 0) 1

/-- The resume interval: after the interval number of the checkpoint used and every stored start and end (R176;
log 17). -/
def Areas.resume (nv : Areas) : Nat := intervalAfter ((nv.used.map (·.interval)).toList ++ nv.intervals)

/-- The interval number of a part that comes up CLOSED (R175). -/
def Areas.closedInterval (nv : Areas) : Nat :=
  intervalAfter (nv.valid.map (·.2.interval) ++ nv.intervals ++ (nv.certificate.bind (·.endInterval)).toList)

/-- Exposure as the restore sets it: the stored episodes' charges and the overflow sums, held at 16,777,215 (R177). -/
def restoredExposure (episodes : List Episode) (o : Overflow) : Charges :=
  ⟨min max24 ((episodes.map (fun e => (e.charges.map (·.warm)).getD 0)).sum + o.warm),
    min max24 ((episodes.map (fun e => (e.charges.map (·.cold)).getD 0)).sum + o.cold)⟩

/-! ## Coming up -/

/-- Every block at its power-on values for a voltage, with power, before the store is examined (R175). -/
def poweredAt (millivolts : Nat) (s : State) : State :=
  let x := supplyAt millivolts
  let running := decide (x.2 = .running)
  { withoutPower s with
    powered := true
    tb := TimebaseBlock.start s.info.serial 0 0 (modeFor x.1 0 0)
    lc := LinkBlock.start s.info.serial running
    sf := SupplyBlock.start x.1 x.2
    timers := ⟨0, if running then 16 else 0, 0⟩ }

/-- Fast-until as the timebase takes it: cleared when the supply is not GOOD (R60, R176). -/
def fastFrom (supply : Supply) (fastUntil : Nat) : Nat := if supply = .good then fastUntil else 0

/-- The timebase at power-on for an interval number and a fast-until taken from the store (R60). -/
def startTimebase (interval fastUntil : Nat) (s : State) : State :=
  let f := fastFrom s.sf.supply fastUntil
  { s with tb := TimebaseBlock.start s.info.serial interval f (modeFor s.sf.supply interval f) }

/-- The part comes up CLOSED from its certificate record (R175, R166; log 35). -/
def comeUpClosed (p : ProfileRecord) (c : Certificate) (s : State) : State :=
  let used := newest s.nv.valid
  let k := used.map (·.2)
  let ring := ringAfter used
  startTimebase s.nv.closedInterval ((k.map (·.fastUntil)).getD 0)
    { s with
      cu := { CustodyBlock.blank with
        custody := .closed, causes := c.causes, breakInterval := c.breakInterval, custodyStart := c.custodyStart
        commissioned := some p, certificate := some c }
      ie := { ExposureBlock.blank with
        exposure := c.exposure, counts := c.counts, before := k.bind (·.before)
        consensusRun := (k.map (·.consensusRun)).getD 0, precoolCount := (k.map (·.precoolCount)).getD 0
        lastClosed := c.endInterval }
      es := { StoreBlock.blank with
        storedCount := countStored s.nv.episodes, legCount := c.legCount
        overflow := (k.map (·.overflow)).getD Overflow.zero, ringPosition := ring.1, sequence := ring.2 }
      sf := { s.sf with sticky := (k.map (·.sticky)).getD c.sticky } }

/-! ## The restore into BROKEN (R176 to R178) -/

/-- What the restore starts from when no checkpoint is valid (R176). -/
def zeroBase (p : Profile) : CheckpointContent where
  interval := 0
  sequence := 0
  custody := .precool
  causes := Causes.empty
  breakInterval := none
  custodyStart := none
  counts := Counts.zero
  gapRun := 0
  mark := false
  before := none
  consensusRun := 0
  precoolCount := 0
  legCount := 1
  openLeg := some (firstLeg p 0)
  overflow := Overflow.zero
  sticky := 0
  fastUntil := 0

/-- Whether a checkpoint's custody state counts the missing intervals as lost (R177). -/
def Custody.losesIntervals : Custody → Bool
  | .chilled | .excursion | .broken | .closing => true
  | .blank | .commissioning | .precool | .closed | .erasing => false

/-- The coverage counts after the restore: the missing intervals lost, an open gap run ended unbridged (R177). -/
def restoredCounts (used : Option CheckpointContent) (base : CheckpointContent) (resume : Nat) : Counts :=
  let missing := match used with
    | some c => if c.custody.losesIntervals then resume - 1 - c.interval else 0
    | none => 0
  { base.counts with
    lost := satAdd max24 base.counts.lost missing
    unbridged := satAdd max24 base.counts.unbridged base.gapRun }

/-- The highest-numbered leg record stored. -/
def highestLeg : List Leg → Option Leg
  | [] => none
  | l :: rest =>
    match highestLeg rest with
    | none => some l
    | some m => if l.number < m.number then some m else some l

/-- A leg that the restore opens: given codes, start at the resume interval, reader serial 0, zero figures (R177). -/
def freshLeg (number compartment carrier resume : Nat) : Leg :=
  ⟨number, compartment, carrier, resume, none, none, ⟨0, 0⟩, 0, 0, 0, 0, 0⟩

/-- The open leg and the leg count after the restore, by R177's cases (log 18, log 19). -/
def restoredLeg (p : Profile) (stored : List Leg) (base : CheckpointContent) (resume : Nat) : Leg × Nat :=
  match base.openLeg, highestLeg stored with
  | some l, some h =>
    if l.number ≤ h.number then
      if h.number < 16 then (freshLeg (h.number + 1) h.compartment h.carrier resume, h.number + 1)
      else ({ h with finish := none }, 16)
    else (l, base.legCount)
  | some l, none => (l, base.legCount)
  | none, some h =>
    if base.legCount < 16 then (freshLeg (base.legCount + 1) h.compartment h.carrier resume, base.legCount + 1)
    else if h.number = 16 then ({ h with finish := none }, 16)
    else (freshLeg 16 h.compartment h.carrier resume, 16)
  | none, none =>
    if base.legCount < 16 then (freshLeg (base.legCount + 1) p.compartment p.carrier resume, base.legCount + 1)
    else (freshLeg 16 p.compartment p.carrier resume, 16)

/-- The POWER episode (R178 step 1), on the leg that the restore left open (log 20). A start beyond the greatest interval
number is held there (log 28). -/
def powerEpisode (leg : Nat) (used : Option CheckpointContent) (resume : Nat) : Episode :=
  let start := match used with
    | some c => satAdd max24 c.interval 1
    | none => 0
  { openEpisode .power leg start with finish := some resume, count := resume - start + 1, lostUnknown := true }

/-- The datum of POWER_LOSS: whether a checkpoint was used, its interval or 0, the resume interval (R181). -/
def powerLossDatum (used : Option CheckpointContent) (resume : Nat) : List Byte :=
  flagByte [used.isSome] :: beBytes 3 ((used.map (·.interval)).getD 0) ++ beBytes 3 resume

/-- The break cause set of POWER_LOSS alone. -/
def Causes.powerLossOnly : Causes := { Causes.empty with powerLoss := true }

/-- Custody, exposure, records and fast-until as the restore takes and settles them, before R178's notes
(R176, R177, R178). -/
def restoreBlocks (p : ProfileRecord) (s : State) : State :=
  let newestOne := newest s.nv.valid
  let used := newestOne.map (·.2)
  let base := used.getD (zeroBase p.profile)
  let resume := s.nv.resume
  let leg := restoredLeg p.profile (inSlots s.nv.legs) base resume
  let ring := ringAfter newestOne
  let power := powerEpisode leg.1.number used resume
  let brk := breakEpisode leg.1.number (resume - 1) Causes.powerLossOnly
  startTimebase resume base.fastUntil
    { s with
      cu := { CustodyBlock.blank with
        custody := .broken, causes := base.causes.union Causes.powerLossOnly
        breakInterval := if base.causes.nonempty then base.breakInterval else some (resume - 1)
        custodyStart := base.custodyStart, commissioned := some p }
      ie := { ExposureBlock.blank with
        cur := some (Accumulator.empty resume), exposure := restoredExposure (inSlots s.nv.episodes) base.overflow
        before := base.before, consensusRun := base.consensusRun
        counts := restoredCounts used base resume, precoolCount := base.precoolCount
        lastClosed := some (resume - 1) }
      lc := { s.lc with content := some ⟨resume - 1, .none, none, false, true, .broken⟩ }
      es := { StoreBlock.blank with
        queue := .episode power :: if base.causes.nonempty then [] else [.episode brk]
        storedCount := countStored s.nv.episodes, openLeg := some leg.1, legCount := leg.2
        overflow := base.overflow, ringPosition := ring.1, sequence := ring.2 }
      sf := { s.sf with sticky := base.sticky } }

/-- The restore into BROKEN, its notes, and then the writes of a part that came up RUNNING (R176 to R178, R182;
log 20). -/
def restore (p : ProfileRecord) (s : State) : State :=
  let used := s.nv.used
  let s1 := restoreBlocks p s
  let s2 := if used.isNone then noteNow .checkpointBad [4] s1 else s1
  startWrites (noteNow .powerLoss (powerLossDatum used s.nv.resume) s2)

/-- The examination of the store at power-on, its cases in R175's order. -/
def examineStore (s : State) : State :=
  if s.nv.eraseMarker then { s with nv := Areas.empty }
  else
    match s.nv.profile with
    | none => s
    | some p =>
      match s.nv.certificate with
      | some c => comeUpClosed p c s
      | none => restore p s

/-- POWER_ON (R175 to R178, R182): at a voltage in millivolts (log 33). It takes effect whether or not the part had
power: with power it is the power-on reset of R29 (log 9). -/
def execPowerOn (millivolts : Nat) (s : State) : Host.Outcome State Fault Refusal :=
  .next (examineStore (poweredAt millivolts s))

end Sys2Proof.Machine
end

