-- ==== Sys2Proof/Machine/Radio.lean ====
section
/-! DEFINITION. The radio channel (chapter 6): FRAME_RECEIVED, BEACON, BEACON_DUE, and the transmitter's events. -/

namespace Sys2Proof.Machine

/-- The bytes of a frame at an offset. -/
def slice (bs : List Byte) (at_ k : Nat) : List Byte := (bs.drop at_).take k

/-- The command frame that a received frame of at least 13 bytes holds (R122). -/
def commandOf (frame : List Byte) : CommandFrame where
  reader := serialOf (slice frame 1 4)
  target := serialOf (slice frame 5 4)
  seq := frame.getD 9 0
  length := frame.getD 10 0
  payload := slice frame 11 (frame.length - 13)

/-- The beacon that a received frame of 20 bytes holds (R121). -/
def beaconOf (frame : List Byte) : BeaconFrame where
  sender := serialOf (slice frame 1 4)
  compartment := BitVec.ofNat 16 (ofBytes (slice frame 5 2))
  leg := frame.getD 7 0
  interval := BitVec.ofNat 16 (ofBytes (slice frame 8 2))
  tmax := BitVec.ofNat 16 (ofBytes (slice frame 10 2))
  tmin := BitVec.ofNat 16 (ofBytes (slice frame 12 2))
  coverage := frame.getD 14 0
  verdict := frame.getD 15 0
  flags := frame.getD 16 0
  seq := frame.getD 17 0

/-- The command kind of a frame's first byte (R122). -/
def commandKindOf (kind : Byte) : Option CommandKind :=
  if kind = 0x41#8 then some .commission
  else if kind = 0x42#8 then some .handover
  else if kind = 0x43#8 then some .query
  else if kind = 0x44#8 then some .live
  else if kind = 0x45#8 then some .close
  else if kind = 0x46#8 then some .erase
  else none

/-- A frame dropped at dispatch: counted, no fault noted (R109, R110). -/
def discardFrame (s : State) : State := counting (fun c => { c with discarded := bump c.discarded }) s

/-- The states in which a received beacon is passed to the neighbour table (R2, R109). -/
def Custody.takesBeacons : Custody → Bool
  | .blank | .commissioning | .closed => false
  | .precool | .chilled | .excursion | .broken | .closing | .erasing => true

/-- A 20-byte beacon whose CRC agrees, dispatched (R109). -/
def dispatchBeacon (b : BeaconFrame) (quality : Byte) (s : State) : State :=
  if s.cu.custody.takesBeacons then
    takeBeacon b quality (counting (fun c => { c with beaconsTaken := bump c.beaconsTaken }) s)
  else discardFrame s

/-- A frame that passed the CRC check, dispatched on its kind (R109, and R110's step 1). -/
def dispatchFrame (frame : List Byte) (quality : Byte) (busy : Bool) (s : State) : State :=
  if frame.headD 0 = 0x1B#8 then
    if frame.length = 20 then dispatchBeacon (beaconOf frame) quality s else discardFrame s
  else
    match commandKindOf (frame.headD 0) with
    | some kind => if frame.length < 13 then discardFrame s else examineCommand kind (commandOf frame) busy s
    | none => discardFrame s

/-- A frame delivered by the transceiver (R108). -/
def receiveFrame (frame : List Byte) (quality : Byte) (busy : Bool) (s : State) : State :=
  if crcAgrees frame then dispatchFrame frame quality busy (countGood s)
  else noteNow .crcError [quality] (counting (fun c => { c with crcErrors := bump c.crcErrors }) s)

/-- Whether a beacon-due event is passed to the link controller (R59). -/
def State.beaconAllowed (s : State) : Bool :=
  s.cu.custody.inService && s.sf.activity = .running
    && (s.sf.supply = .good || (s.sf.supply = .low && s.tb.interval % 2 = 0))

/-- The phase reaching a moment of the current interval; a phase already past it stays (log 4). -/
def reachPhase (p : Nat) (s : State) : State :=
  if s.tb.phase < p then { s with tb := { s.tb with phase := p, quarter := 0 } } else s

/-- The phase reaches the beacon offset (R59, R112). -/
def beaconDue (busy : Bool) (s : State) : State :=
  let s1 := reachPhase s.tb.beaconOffset s
  if s1.beaconAllowed then requestBeacon .scheduled busy s1 else s1

/-- The end of a backoff: the transmitter senses again (R116). -/
def backoffEnds (busy busyNext : Bool) (s : State) : State :=
  if s.lc.tx = .backoff then senseAgain busy busyNext s else s

/-- The slot of the frame on the air. -/
def State.sendingSlot (s : State) : Slot := (s.lc.onAir.map (·.slot)).getD .reply

/-- A frame sent (R118, R119). -/
def countSent (slot : Slot) (s : State) : State :=
  match slot with
  | .beacon => counting (fun c => { c with beaconsSent := bump c.beaconsSent }) s
  | .reply => counting (fun c => { c with repliesSent := bump c.repliesSent }) s

/-- The transmit-complete indication (R118), disregarded outside SENDING. -/
def transmitCompletes (busy : Bool) (s : State) : State :=
  if s.lc.tx = .sending then serve busy (transmitterIdle (countSent s.sendingSlot s)) else s

/-- No transmit-complete within 20 ms (R118): the frame counts as dropped with cause TIMEOUT. -/
def transmitTimesOut (busy : Bool) (s : State) : State :=
  if s.lc.tx = .sending then serve busy (dropped s.sendingSlot .timeout [] (transmitterIdle s)) else s

/-- The end of WAIT (R107): the transmitter becomes IDLE and serves the slots. -/
def waitEnds (busy : Bool) (s : State) : State :=
  if s.lc.tx = .wait then serve busy (transmitterIdle s) else s

/-- FRAME_RECEIVED (R108 to R110). -/
def execFrameReceived (frame : List Byte) (quality : Byte) (busy : Bool) (s : State) :
    Host.Outcome State Fault Refusal :=
  effect (delivered (receiveFrame frame quality busy)) s

/-- BEACON (R90 to R96, R105, R109). -/
def execBeacon (b : BeaconFrame) (quality : Byte) (s : State) : Host.Outcome State Fault Refusal :=
  effect (delivered (fun s => dispatchBeacon b quality (countGood s))) s

/-- BEACON_DUE (R59, R112). -/
def execBeaconDue (busy : Bool) (s : State) : Host.Outcome State Fault Refusal := effect (beaconDue busy) s

/-- BACKOFF_END (R116). Outside BACKOFF the event does not arise, and nothing changes (log 3). -/
def execBackoffEnd (busy busyNext : Bool) (s : State) : Host.Outcome State Fault Refusal :=
  effect (backoffEnds busy busyNext) s

/-- TRANSMIT_COMPLETE (R118). -/
def execTransmitComplete (busy : Bool) (s : State) : Host.Outcome State Fault Refusal :=
  effect (transmitCompletes busy) s

/-- TRANSMIT_TIMEOUT (R118). Outside SENDING the event does not arise, and nothing changes (log 3). -/
def execTransmitTimeout (busy : Bool) (s : State) : Host.Outcome State Fault Refusal :=
  effect (transmitTimesOut busy) s

/-- WAIT_END (R107). Outside WAIT the event does not arise, and nothing changes (log 3). -/
def execWaitEnd (busy : Bool) (s : State) : Host.Outcome State Fault Refusal := effect (waitEnds busy) s

end Sys2Proof.Machine
end

