-- ==== Sys2Proof/Machine/Store.lean ====
section
/-! DEFINITION. The evidence store's events (chapter 7, with R6, R7, R14 and R17): STORE_WRITE_END,
CLOSING_RECORD_HANDOVER, CRITICAL_CHECKPOINT_OFFER and ERASE_COMPLETE. -/

namespace Sys2Proof.Machine

/-- The held answer's reply, if one is held (R146). -/
def answerHeld (held : Option Asker) (status : Status) (page : Nat) (payload : List Byte) (busy : Bool) (s : State) :
    State :=
  match held with
  | some who => placeReply ⟨who, status, page, payload⟩ busy s
  | none => s

/-! ## The commissioning write (R6, R7) -/

/-- The beacon content at the entry to PRECOOL (R111). -/
def precoolContent : BeaconContent := ⟨0, .none, none, false, true, .precool⟩

/-- The entry to PRECOOL (R6, R45, R54, R58, R62, R111, R124). The compare period and buffer follow R51 (log 11). -/
def enterPrecool (s : State) : State :=
  selectMode
    { s with
      cu := { s.cu with custody := .precool, causes := Causes.empty, breakInterval := none, custodyStart := none }
      tb := { s.tb with
        interval := 0, phase := 0, quarter := 0, fastUntil := 0, compare := some 0
        riseRef := none, riseBuffer := none, alertInterval := none
        beaconOffset := beaconOffsetOf s.info.serial 0 }
      ie := { ExposureBlock.blank with cur := some (Accumulator.empty 0) }
      lc := { s.lc with content := some precoolContent }
      es := { s.es with
        storedCount := 0, openExcursion := none, openGap := none, openCover := none, overflow := Overflow.zero
        ringPosition := 0, sequence := 0, logFullNoted := false } }

/-- The profile record written and verified (R6, R147). The values of R6 are set before the held reply is placed, so
that its ready capture, and the note of a reply that it replaces, carry interval 0 and phase 0 (DESIGN CHOICE,
log 53). -/
def profileWritten (r : ProfileRecord) (busy : Bool) (s : State) : State :=
  let s1 := enterPrecool { s with nv := { s.nv with profile := some r } }
  answerHeld s.cu.held .ok 3 r.bytes busy { s1 with cu := { s1.cu with held := none } }

/-- The profile record's write failed (R7, R147). -/
def profileFailed (busy : Bool) (s : State) : State :=
  answerHeld s.cu.held .storeFail 0 [] busy
    { s with
      cu := { s.cu with custody := .blank, commissioned := none, held := none }
      es := { s.es with openLeg := none, legCount := 0 } }

/-! ## The other records (R128, R133, R138, R141) -/

/-- An episode stored into the slot of the stored episode count (R133). -/
def episodeStored (e : Episode) (s : State) : State :=
  { s with
    nv := { s.nv with episodes := s.nv.episodes.set s.es.storedCount (some { e with index := some s.es.storedCount }) }
    es := { s.es with storedCount := s.es.storedCount + 1 } }

/-- The end of a closed leg's write (R138): the slot of its number holds it when it verified and nothing when it failed,
whatever the slot held before (R123, R128; log 37). -/
def legEnds (ok : Bool) (l : Leg) (s : State) : State :=
  { s with nv := { s.nv with legs := s.nv.legs.set (l.number - 1) (if ok then some l else none) } }

/-- The end of a checkpoint's write (R141): its slot holds it when it verified and nothing when it failed; the ring
position and the sequence advance either way. -/
def checkpointEnds (ok : Bool) (c : Option Checkpoint) (s : State) : State :=
  { s with
    nv := { s.nv with checkpoints := s.nv.checkpoints.set s.es.ringPosition (if ok then c else none) }
    es := { s.es with ringPosition := (s.es.ringPosition + 1) % 8, sequence := satAdd max24 s.es.sequence 1 } }

/-- The end of the certificate record's write (R14, R158): CLOSED, and the held answer with page A. -/
def certificateEnds (ok : Bool) (c : Certificate) (busy : Bool) (s : State) : State :=
  answerHeld s.cu.held (if ok then .ok else .storeFail) 1 c.pageA busy
    { s with
      cu := { s.cu with custody := .closed, held := none }
      nv := if ok then { s.nv with certificate := some c } else s.nv }

/-- The end of the head record's write, by kind and verify result (R127, R128). The record leaves the queue, and the
next write starts, before a reply is placed. -/
def recordEnds (ok busy : Bool) (r : QueueRecord) (s : State) : State :=
  let s1 := if ok then s else noteNow .storeFail r.datum s
  match r with
  | .profile p => if ok then profileWritten p busy (nextWrite s1) else profileFailed busy (nextWrite s1)
  | .episode e => nextWrite (if ok then episodeStored e s1 else foldEpisode e s1)
  | .leg l => nextWrite (legEnds ok l s1)
  | .checkpoint c => nextWrite (checkpointEnds ok c s1)
  | .certificate c => certificateEnds ok c busy (nextWrite s1)

/-- The end of a record write (R127): a write that ends with the cell below 1.90 V fails verify (R171). -/
def writeEnds (verified below190 busy : Bool) (s : State) : State :=
  if s.es.state = .writing then
    match s.es.queue with
    | r :: _ => recordEnds (verified && !below190) busy r s
    | [] => s
  else s

/-! ## Closing records (R14, R165) -/

/-- The next closing record handed over (R14): the certificate is fixed at its own hand-over (R165). The final checkpoint
merges with a checkpoint that still waits unstarted, as any other does (R126; log 40). -/
def handOverClosing (s : State) : State :=
  if s.closingReady then
    match s.cu.closing with
    | [] => s
    | item :: rest =>
      let s1 := { s with cu := { s.cu with closing := rest } }
      match item with
      | .episode e => offer (.episode e) s1
      | .leg l => offer (.leg l) s1
      | .checkpoint => offer (.checkpoint none) s1
      | .certificate =>
        let c := computeCertificate false s
        offer (.certificate c) { s1 with cu := { s1.cu with certificate := some c } }
  else s

/-! ## The erase (R17, R143) -/

/-- Every block at its BLANK values (R17, R22, R54, R62, R106, R124, R179). The supply state, the activity, the phase,
the compare, the backoff generator and the reply slot keep theirs. -/
def blankBlocks (busy : Bool) (s : State) : State :=
  let s1 := discardBeacon busy s
  selectMode
    { s1 with
      cu := CustodyBlock.blank
      mc := ConverterBlock.blank
      tb := { s1.tb with
        interval := 0, fastUntil := 0, riseRef := none, riseBuffer := none, alertInterval := none }
      ie := ExposureBlock.blank
      nt := emptyTable
      lc := { s1.lc with
        content := none, sequence := 0, liveInFlight := none, liveWaiting := none, counters := LinkCounters.zero }
      es := StoreBlock.blank
      nv := Areas.empty
      sf := { s1.sf with sticky := 0, context := none, multiple := false, unread := 0 } }

/-- The completion of an erase (R17, R143, R159): the areas empty, the marker clear, every block blank, and then the held
OK reply. -/
def eraseCompletes (busy : Bool) (s : State) : State :=
  if s.cu.custody = .erasing then answerHeld s.es.held .ok 0 [] busy (blankBlocks busy s) else s

/-- STORE_WRITE_END (R6, R7, R14, R127, R128, R133, R138, R141). With no write in progress nothing changes (log 3). -/
def execStoreWriteEnd (verified below190 busy : Bool) (s : State) : Host.Outcome State Fault Refusal :=
  effect (writeEnds verified below190 busy) s

/-- CLOSING_RECORD_HANDOVER (R14, R165). While there is no room, or nothing to hand over, nothing changes. -/
def execClosingRecordHandover (s : State) : Host.Outcome State Fault Refusal := effect handOverClosing s

/-- CRITICAL_CHECKPOINT_OFFER (R129). With no CRITICAL checkpoint waiting, or no room, nothing changes. -/
def execCriticalCheckpointOffer (s : State) : Host.Outcome State Fault Refusal := effect admitCritical s

/-- ERASE_COMPLETE (R17, R143, R159). With no erase running nothing changes (log 3). -/
def execEraseComplete (busy : Bool) (s : State) : Host.Outcome State Fault Refusal := effect (eraseCompletes busy) s

end Sys2Proof.Machine
end

