-- ==== Sys2Proof/Machine/Timebase.lean ====
section
/-! DEFINITION. The timebase's events (chapter 3): INTERVAL_BOUNDARY and COMPARE_MATCH. -/

namespace Sys2Proof.Machine

/-- The interval number at a boundary (R45, R47): held in BLANK and COMMISSIONING, incremented otherwise, and never past
16,777,215. -/
def nextInterval (c : Custody) (n : Nat) : Nat :=
  match c with
  | .blank | .commissioning => n
  | .precool | .chilled | .excursion | .broken | .closing | .closed | .erasing => satAdd max24 n 1

/-- Steps 1 to 4 of R46: the phase 0, the interval number, the mode with its compare loaded, the beacon offset. -/
def boundarySteps (s : State) : State :=
  let n := nextInterval s.cu.custody s.tb.interval
  let m := modeFor s.sf.supply n s.tb.fastUntil
  { s with tb := { s.tb with
      interval := n, phase := 0, quarter := 0, mode := m, compare := some 0, period := m.period, buffer := m.period
      beaconOffset := beaconOffsetOf s.info.serial n } }

/-- An interval boundary (R46). At the interval number 16,777,215 none is passed to IE (R47). -/
def boundary (s : State) : State :=
  if s.tb.interval = max24 then boundarySteps s else boundaryToExposure (boundarySteps s)

/-- Steps 2 and 3 of R50: the compare value advances by the period in force, and the buffer is copied into it. -/
def advanceCompare (c : Nat) (s : State) : State :=
  { s with tb := { s.tb with
      compare := if 60000 ≤ c + s.tb.period then none else some (c + s.tb.period)
      period := s.tb.buffer } }

/-- The phase reaches the compare value (R50); with none no match takes place. -/
def compareMatches (s : State) : State :=
  match s.tb.compare with
  | some c =>
    let s1 := reachPhase c s
    let s2 := if s1.cu.custody.inService && s1.sf.activity = .running then trigger .schedule s1 else s1
    advanceCompare c s2
  | none => s

/-- INTERVAL_BOUNDARY (R45 to R47, R58, R63, R65 to R88). -/
def execIntervalBoundary (s : State) : Host.Outcome State Fault Refusal := effect boundary s

/-- COMPARE_MATCH (R50 to R52). -/
def execCompareMatch (s : State) : Host.Outcome State Fault Refusal := effect compareMatches s

end Sys2Proof.Machine
end

