-- ==== Sys2Proof/Machine/Dispatch.lean ====
section
/-! DEFINITION. The meaning of every command: one arm per constructor, one direct call of its meaning. -/

namespace Sys2Proof.Machine

/-- The effect of a command on everything but the queue of commands. -/
def exec (i : Instr) (s : State) : Host.Outcome State Fault Refusal :=
  match i with
  | .commission f busy => Sys2Proof.Machine.execCommission f busy s
  | .handover f busy => Sys2Proof.Machine.execHandover f busy s
  | .queryCertA q busy => Sys2Proof.Machine.execQueryCertA q busy s
  | .queryCertB q busy => Sys2Proof.Machine.execQueryCertB q busy s
  | .queryProfile q busy => Sys2Proof.Machine.execQueryProfile q busy s
  | .queryLeg q busy => Sys2Proof.Machine.execQueryLeg q busy s
  | .queryEpisode q busy => Sys2Proof.Machine.execQueryEpisode q busy s
  | .queryOpen q busy => Sys2Proof.Machine.execQueryOpen q busy s
  | .queryOverflow q busy => Sys2Proof.Machine.execQueryOverflow q busy s
  | .queryHistory q busy => Sys2Proof.Machine.execQueryHistory q busy s
  | .queryPeers q busy => Sys2Proof.Machine.execQueryPeers q busy s
  | .queryFaults q busy => Sys2Proof.Machine.execQueryFaults q busy s
  | .queryStatus q busy => Sys2Proof.Machine.execQueryStatus q busy s
  | .queryBadPage q page busy => Sys2Proof.Machine.execQueryBadPage q page busy s
  | .live f busy => Sys2Proof.Machine.execLive f busy s
  | .close f busy => Sys2Proof.Machine.execClose f busy s
  | .erase f busy => Sys2Proof.Machine.execErase f busy s
  | .eraseComplete busy => Sys2Proof.Machine.execEraseComplete busy s
  | .frameReceived frame quality busy => Sys2Proof.Machine.execFrameReceived frame quality busy s
  | .beacon b quality => Sys2Proof.Machine.execBeacon b quality s
  | .settlingEnd => Sys2Proof.Machine.execSettlingEnd s
  | .conversionEnd code busy => Sys2Proof.Machine.execConversionEnd code busy s
  | .intervalBoundary => Sys2Proof.Machine.execIntervalBoundary s
  | .compareMatch => Sys2Proof.Machine.execCompareMatch s
  | .beaconDue busy => Sys2Proof.Machine.execBeaconDue busy s
  | .backoffEnd busy busyNext => Sys2Proof.Machine.execBackoffEnd busy busyNext s
  | .transmitComplete busy => Sys2Proof.Machine.execTransmitComplete busy s
  | .transmitTimeout busy => Sys2Proof.Machine.execTransmitTimeout busy s
  | .waitEnd busy => Sys2Proof.Machine.execWaitEnd busy s
  | .storeWriteEnd verified below190 busy => Sys2Proof.Machine.execStoreWriteEnd verified below190 busy s
  | .closingRecordHandover => Sys2Proof.Machine.execClosingRecordHandover s
  | .supplyLow => Sys2Proof.Machine.execSupplyLow s
  | .supplyGood => Sys2Proof.Machine.execSupplyGood s
  | .supplyCritical busy => Sys2Proof.Machine.execSupplyCritical busy s
  | .criticalCheckpointOffer => Sys2Proof.Machine.execCriticalCheckpointOffer s
  | .haltReady => Sys2Proof.Machine.execHaltReady s
  | .supplyRecover => Sys2Proof.Machine.execSupplyRecover s
  | .retentionLoss => Sys2Proof.Machine.execRetentionLoss s
  | .powerOn millivolts => Sys2Proof.Machine.execPowerOn millivolts s

end Sys2Proof.Machine
end

