-- ==== Sys2Proof/Machine/Tick.lean ====
section
/-! DEFINITION. The passing of time on an empty queue of commands: a tick of a quarter of a millisecond, or the part's own
event that is due (log 2). -/

namespace Sys2Proof.Machine

/-- The first of a list of events whose condition holds. -/
def firstDue : List (Bool × Instr) → Option Instr
  | [] => none
  | (due, i) :: rest => if due then some i else firstDue rest

/-- Whether a waiting CRITICAL checkpoint finds its place now (R129). -/
def State.criticalReady (s : State) : Bool :=
  s.es.criticalWaiting && (unstartedCheckpoint s.es.queue || s.es.queue.length < queueLimit)

/-- Whether the compare value has been reached (R50). -/
def State.compareReached (s : State) : Bool :=
  match s.tb.compare with
  | some c => c ≤ s.tb.phase
  | none => false

/-- Whether the burst's stage has run out: settling, and a conversion (R25). -/
def State.settlingOver (s : State) : Bool :=
  s.timers.burst = 0 &&
    match s.mc.burst with
    | .settling _ => true
    | .idle | .converting _ _ => false

/-- Whether a conversion has run out (R25). -/
def State.conversionOver (s : State) : Bool :=
  s.timers.burst = 0 &&
    match s.mc.burst with
    | .converting _ _ => true
    | .idle | .settling _ => false

/-- The part's own event that is due at this moment, if one is. What such an event takes from outside is a free value,
drawn by `s.inputs` (log 5). -/
def dueEvent (s : State) : Option Instr :=
  let busy := Config.freeBusy (2 * s.inputs)
  let busyNext := Config.freeBusy (2 * s.inputs + 1)
  firstDue [
    (s.compareReached, .compareMatch),
    (s.settlingOver, .settlingEnd),
    (s.conversionOver, .conversionEnd (Config.freeCode s.inputs) busy),
    (s.lc.tx = .wait && s.timers.tx = 0, .waitEnd busy),
    (s.lc.tx = .backoff && s.timers.tx = 0, .backoffEnd busy busyNext),
    (s.lc.tx = .sending && s.timers.tx = 0, .transmitTimeout busy),
    (s.es.state = .writing && s.timers.store = 0,
      .storeWriteEnd (Config.freeVerify s.inputs) (Config.freeBelow190 s.inputs) busy),
    (s.es.state = .erasing && s.timers.store = 0, .eraseComplete busy),
    (s.criticalReady, .criticalCheckpointOffer),
    (s.closingReady, .closingRecordHandover),
    (s.haltReady, .haltReady)]

/-- The free values of one event drawn. -/
def drawInputs (s : State) : State := { s with inputs := s.inputs + 1 }

/-- The periods that are running, one quarter of a millisecond shorter. -/
def shortenTimers (s : State) : State :=
  { s with timers := ⟨s.timers.burst - 1, s.timers.tx - 1, s.timers.store - 1⟩ }

/-- A quarter of a millisecond passes (R45). At the end of the interval it brings the boundary, and on reaching the beacon
offset the beacon-due event (R46, R59). Where a settling, a conversion, a backoff, a WAIT, a transmission or a write
runs out at that same moment, the boundary or the beacon-due event comes first and the events of `dueEvent` after it, so
that a boundary defers its close behind the burst whose last conversion ends there (DESIGN CHOICE, log 52). -/
def passQuarter (s : State) : Host.Outcome State Fault Refusal :=
  if s.tb.quarter < 3 then .next { s with tb := { s.tb with quarter := s.tb.quarter + 1 } }
  else if 59999 ≤ s.tb.phase then exec .intervalBoundary s
  else
    let s1 := { s with tb := { s.tb with phase := s.tb.phase + 1, quarter := 0 } }
    if s1.tb.phase = s1.tb.beaconOffset then
      exec (.beaconDue (Config.freeBusy (2 * s1.inputs))) (drawInputs s1)
    else .next s1

/-- One step on an empty queue: the due event, or a quarter of a millisecond. Without power nothing happens (log 8). -/
def tick (s : State) : Host.Outcome State Fault Refusal :=
  if s.powered then
    match dueEvent s with
    | some i => exec i (drawInputs s)
    | none => passQuarter (shortenTimers s)
  else .next s

end Sys2Proof.Machine
end

