-- ==== Sys2Proof/Machine/Step.lean ====
section
/-! DEFINITION. One step of the part, and a word's command put in front of its queue. -/

namespace Sys2Proof.Machine

/-- One step: the command at the front of the queue runs on the queue's rest; on an empty queue time passes (log 1,
log 2). -/
def step (s : State) : Host.Outcome State Fault Refusal :=
  match s.pending with
  | i :: rest => exec i { s with pending := rest }
  | [] => tick s

/-- The state with the command that a word spells put in front of the queue, unchanged where it spells none. -/
def State.withFetchWord (s : State) (nbits w : Nat) : State :=
  match decodeTableWord nbits w with
  | some i => { s with pending := i :: s.pending }
  | none => s

end Sys2Proof.Machine
end

