-- ==== Sys2Proof/Safety.lean ====
section
/-! DEFINITION. What counts as a sound state of the part: the conditions that every step keeps, block by block. -/

namespace Sys2Proof.Machine

/-- The fault status holds what R179 says of it: the context is empty exactly when the unread count is 0, and the
multiple flag is set only while the count is 2 or more. -/
structure SupplyBlock.FaultsSound (sf : SupplyBlock) : Prop where
  emptyAtZero : sf.context = none ↔ sf.unread = 0
  multipleFromTwo : sf.multiple = true → 2 ≤ sf.unread
  bounded : sf.unread ≤ 255

/-- The neighbour table holds what R89, R90 and R97 say of it: 24 slots, no two entries of one serial, no entry of the own
serial, no age above 5, and figures in an entry exactly when its coverage is OWN, AIR or WITNESS. -/
structure TableSound (serial : Serial) (table : List (Option Peer)) : Prop where
  slots : table.length = 24
  distinct : ∀ (i j : Nat) (p q : Peer), table[i]? = some (some p) → table[j]? = some (some q) → p.serial = q.serial → i = j
  foreign : ∀ p : Peer, some p ∈ table → p.serial ≠ serial
  ages : ∀ p : Peer, some p ∈ table → p.age ≤ 5
  measured : ∀ p : Peer, some p ∈ table →
    (p.figures.isSome = true ↔ p.coverage = .own ∨ p.coverage = .air ∨ p.coverage = .witness)

/-- The timebase and the schedule are in the ranges of R44, the mode is the one that R49 selects, and the compare buffer
holds its period (R51). -/
structure State.ScheduleSound (s : State) : Prop where
  mode : s.tb.mode = modeFor s.sf.supply s.tb.interval s.tb.fastUntil
  buffer : s.tb.buffer = s.tb.mode.period
  period : s.tb.period = 10000 ∨ s.tb.period = 30000 ∨ s.tb.period = 60000
  interval : s.tb.interval ≤ 16777215
  phase : s.tb.phase ≤ 59999
  quarter : s.tb.quarter ≤ 3
  compare : ∀ c, s.tb.compare = some c → c ≤ 59999
  offset : 5000 ≤ s.tb.beaconOffset ∧ s.tb.beaconOffset ≤ 54999

/-- A capture within the ranges of R44. -/
def Capture.InRange (c : Capture) : Prop := c.interval ≤ 16777215 ∧ c.phase ≤ 59999

/-- A rise reference or buffer within the ranges of R44, its temperature in the range of every temperature. -/
def RisePoint.InRange (x : RisePoint) : Prop := x.at_.InRange ∧ -4000 ≤ x.temp ∧ x.temp ≤ 8500

/-- The slot that the transmitter serves holds its frame while it backs off. -/
def LinkBlock.slotFull (lc : LinkBlock) : Slot → Prop
  | .beacon => lc.beaconSlot ≠ none
  | .reply => lc.replySlot ≠ none

/-- The radio follows the supply (R107, R171 to R173), and the transmitter holds what its state says (R106, R115,
R118): off and idle with its slots empty while the line is off; nothing waiting while it is idle; a served slot in
BACKOFF and SENDING and no other state; a frame on the air in SENDING alone; the generator never zero (R117). -/
structure State.RadioSound (s : State) : Prop where
  line : s.lc.enable = true ↔ s.sf.activity = .running ∧ s.sf.haltPending = false
  halted : s.sf.activity = .halted → s.sf.supply = .critical ∧ s.sf.haltPending = false
  off : s.lc.enable = false → s.lc.tx = .idle
  idle : s.lc.tx = .idle → s.lc.beaconSlot = none ∧ s.lc.replySlot = none
  noSense : s.lc.tx ≠ .sense
  served : s.lc.served = none ↔ s.lc.tx = .idle ∨ s.lc.tx = .wait
  waiting : ∀ slot, s.lc.tx = .backoff → s.lc.served = some slot → s.lc.slotFull slot
  onAir : s.lc.onAir.isSome = true ↔ s.lc.tx = .sending
  attempts : s.lc.attempts ≤ 3
  generator : s.lc.generator ≠ 0#16

/-- The burst in flight, if one is. -/
def Burst.flight : Burst → Option Flight
  | .idle => none
  | .settling f | .converting f _ => some f

/-- Whether the burst in flight serves SPOT. -/
def ConverterBlock.servesSpot (mc : ConverterBlock) : Bool :=
  match mc.burst.flight with
  | some f => f.sources.spot
  | none => false

/-- The converter holds what R22 to R24 and R114 say: no trigger pends while it is IDLE, no burst is in flight while
HALTED or with the halt pending (R171), a LIVE record is present exactly with the SPOT it waits for, and a close is
deferred only behind a credited burst of its own interval (R65). -/
structure State.ConverterSound (s : State) : Prop where
  idle : s.mc.burst = .idle → s.mc.triggers = Sources.empty
  quiet : s.sf.activity = .halted ∨ s.sf.haltPending = true → s.mc.burst = .idle
  inFlight : s.lc.liveInFlight.isSome = s.mc.servesSpot
  waiting : s.lc.liveWaiting.isSome = s.mc.triggers.spot
  deferred : ∀ acc, s.ie.old = some acc →
    ∃ f, s.mc.burst.flight = some f ∧ f.credit = true ∧ f.start.interval = acc.interval

/-- What the schedule holds beside its counters is in the ranges of R44: fast-until, the alert interval, the rise
reference and the rise buffer. With them stand the values that they come from: the start capture of the burst in flight,
and the fast-until of every checkpoint stored or being written, which a restore takes (R176). -/
structure State.CapturesSound (s : State) : Prop where
  fastUntil : s.tb.fastUntil ≤ 16777215
  alert : ∀ n, s.tb.alertInterval = some n → n ≤ 16777215
  riseRef : ∀ x, s.tb.riseRef = some x → x.InRange
  riseBuffer : ∀ x, s.tb.riseBuffer = some x → x.InRange
  flight : ∀ f, s.mc.burst.flight = some f → f.start.InRange
  stored : ∀ c, some c ∈ s.nv.checkpoints → c.content.fastUntil ≤ 16777215
  queued : ∀ c, QueueRecord.checkpoint (some c) ∈ s.es.queue → c.content.fastUntil ≤ 16777215

/-- The closing records still to be handed over end with the certificate record, and hold it once (R14). -/
def ClosingList (items : List ClosingItem) : Prop :=
  ∃ front, items = front ++ [.certificate] ∧ ClosingItem.certificate ∉ front

/-- Custody holds what its rules say: the break cause set is empty up to EXCURSION and nonempty in BROKEN (R3); custody
start is present in CHILLED and EXCURSION and absent before (R4); a leg is open exactly from COMMISSIONING to CLOSE
(R135); accumulators exist only in service (R63); COMMISSIONING has its profile record alone in the queue (R5); CLOSING
has records to hand over or its certificate alone in the queue (R14). -/
structure State.CustodySound (s : State) : Prop where
  noCause : s.cu.custody = .blank ∨ s.cu.custody = .commissioning ∨ s.cu.custody = .precool
    ∨ s.cu.custody = .chilled ∨ s.cu.custody = .excursion → s.cu.causes = Causes.empty
  broken : s.cu.custody = .broken → s.cu.causes.nonempty = true
  started : s.cu.custody = .chilled ∨ s.cu.custody = .excursion → s.cu.custodyStart.isSome = true
  notStarted : s.cu.custody = .precool → s.cu.custodyStart = none
  leg : s.es.openLeg.isSome = true ↔ s.cu.custody = .commissioning ∨ s.cu.custody.inService = true
  accumulators : s.ie.cur.isSome = true ∨ s.ie.old.isSome = true → s.cu.custody.inService = true
  waiting : s.es.criticalWaiting = true → s.cu.custody.inService = true ∧ s.sf.haltPending = true
  blank : s.cu.custody = .blank → s.es.queue = []
  profile : ∀ r, QueueRecord.profile r ∈ s.es.queue → s.cu.custody = .commissioning
  commissioning : s.cu.custody = .commissioning → ∃ r, s.es.queue = [.profile r] ∧ s.cu.commissioned = some r
  certificate : ∀ c, QueueRecord.certificate c ∈ s.es.queue →
    s.cu.custody = .closing ∧ s.cu.closing = [] ∧ s.es.queue = [.certificate c]
  closing : s.cu.custody = .closing →
    ClosingList s.cu.closing ∨ (s.cu.closing = [] ∧ ∃ c, s.es.queue = [.certificate c])

/-- The store is within its bounds (R83, R123, R125, R133, R141), an IDLE store of a RUNNING part has nothing to write
(R127), and the store of a HALTED part is IDLE (R130). -/
structure State.StoreSound (s : State) : Prop where
  queue : s.es.queue.length ≤ 4
  stored : s.es.storedCount ≤ 96
  ring : s.es.ringPosition < 8
  history : s.ie.history.length ≤ 64
  episodes : s.nv.episodes.length = 96
  legs : s.nv.legs.length = 16
  checkpoints : s.nv.checkpoints.length = 8
  writing : s.es.state = .writing → s.es.queue ≠ []
  room : ∀ e rest, s.es.state = .writing → s.es.queue = .episode e :: rest → s.es.storedCount < 96
  taken : ∀ rest, s.es.state = .writing → s.es.queue ≠ .checkpoint none :: rest
  idle : s.es.state = .idle → s.sf.activity = .running → s.es.queue = []
  halted : s.sf.activity = .halted → s.es.state = .idle

/-- The exposure engine holds what R62, R74 and R83 say: the exposures within their range from COMMISSIONING to CLOSING and
0 until custody can start; the gap run at most 255; the ring's interval numbers rising from the oldest record to the
newest, and below those of the accumulators that still gather; the current accumulator that of the current interval. The
certificate record alone gives the exposures of a part that comes up CLOSED, so nothing is said of them there. -/
structure State.ExposureSound (s : State) : Prop where
  bounded : s.cu.custody ≠ .closed → s.cu.custody ≠ .erasing →
    s.ie.exposure.warm ≤ 16777215 ∧ s.ie.exposure.cold ≤ 16777215
  zero : s.cu.custody = .blank ∨ s.cu.custody = .commissioning ∨ s.cu.custody = .precool → s.ie.exposure = ⟨0, 0⟩
  gapRun : s.ie.gapRun ≤ 255
  current : ∀ acc, s.ie.cur = some acc → acc.interval = s.tb.interval ∧ ∀ r ∈ s.ie.history, r.interval < acc.interval
  deferred : ∀ acc, s.ie.old = some acc → acc.interval < s.tb.interval ∧ ∀ r ∈ s.ie.history, r.interval < acc.interval
  history : s.ie.history.Pairwise (fun a b => b.interval < a.interval)

/-- The stored episodes are the slots 0 to the stored episode count less one (R124, R133). -/
def State.EpisodesFilled (s : State) : Prop :=
  ∀ k < s.es.storedCount, ∃ e, s.nv.episodes[k]? = some (some e)

/-- A state in which every block is sound. -/
structure State.Sound (s : State) : Prop where
  faults : s.sf.FaultsSound
  table : TableSound s.info.serial s.nt
  schedule : s.ScheduleSound
  captures : s.CapturesSound
  radio : s.RadioSound
  converter : s.ConverterSound
  custody : s.CustodySound
  store : s.StoreSound
  exposure : s.ExposureSound
  episodes : s.EpisodesFilled

/-! ## Reader commands as the statements speak of them -/

/-- The kind byte of a reader command frame (R122). -/
def CommandKind.byte : CommandKind → Byte
  | .commission => 0x41
  | .handover => 0x42
  | .query => 0x43
  | .live => 0x44
  | .close => 0x45
  | .erase => 0x46

/-- The reader command that a command of the part is, if it is one: its kind, its frame and the channel-busy indication
of its step (R122, R151). -/
def readerCommand (i : Instr) : Option (CommandKind × CommandFrame × Bool) :=
  match i with
  | .commission f busy => some (.commission, f, busy)
  | .handover f busy => some (.handover, f, busy)
  | .queryCertA q busy => some (.query, queryCommand q 1, busy)
  | .queryCertB q busy => some (.query, queryCommand q 2, busy)
  | .queryProfile q busy => some (.query, queryCommand q 3, busy)
  | .queryLeg q busy => some (.query, queryCommand q 4, busy)
  | .queryEpisode q busy => some (.query, queryCommand q 5, busy)
  | .queryOpen q busy => some (.query, queryCommand q 6, busy)
  | .queryOverflow q busy => some (.query, queryCommand q 7, busy)
  | .queryHistory q busy => some (.query, queryCommand q 8, busy)
  | .queryPeers q busy => some (.query, queryCommand q 9, busy)
  | .queryFaults q busy => some (.query, queryCommand q 10, busy)
  | .queryStatus q busy => some (.query, queryCommand q 11, busy)
  | .queryBadPage q page busy => some (.query, queryCommand q page, busy)
  | .live f busy => some (.live, f, busy)
  | .close f busy => some (.close, f, busy)
  | .erase f busy => some (.erase, f, busy)
  | .eraseComplete _ | .frameReceived _ _ _ | .beacon _ _ | .settlingEnd | .conversionEnd _ _ => none
  | .intervalBoundary | .compareMatch | .beaconDue _ | .backoffEnd _ _ | .transmitComplete _ => none
  | .transmitTimeout _ | .waitEnd _ | .storeWriteEnd _ _ _ | .closingRecordHandover => none
  | .supplyLow | .supplyGood | .supplyCritical _ | .criticalCheckpointOffer | .haltReady | .supplyRecover => none
  | .retentionLoss | .powerOn _ => none

/-- The reader and the sequence that a reply to a command frame echoes (R110, R145). -/
def askerOf (f : CommandFrame) : Asker := ⟨f.reader, f.seq⟩

/-- The part has power and its transceiver delivers (R107; log 8, log 10, log 51). -/
structure State.Receives (s : State) : Prop where
  powered : s.powered = true
  hears : s.hears = true

/-- A command frame of this kind passes every step of R110 up to its dispatch. -/
structure State.Takes (s : State) (kind : CommandKind) (f : CommandFrame) : Prop where
  receives : s.Receives
  target : f.target = s.info.serial
  free : busyState kind s.cu.custody = false
  counted : f.length.toNat = f.payload.length
  short : f.payload.length ≤ 48
  fits : lengthFits kind f.payload = true

/-- The part once a command frame has been received and taken: both are counted (R108, R110). -/
def State.taken (s : State) : State :=
  { s with lc := { s.lc with counters := { s.lc.counters with
      receivedGood := bump s.lc.counters.receivedGood, commandsTaken := bump s.lc.counters.commandsTaken } } }

/-- The part once a frame has been received and then discarded at dispatch (R108 to R110). -/
def State.frameDiscarded (s : State) : State :=
  { s with lc := { s.lc with counters := { s.lc.counters with
      receivedGood := bump s.lc.counters.receivedGood, discarded := bump s.lc.counters.discarded } } }

/-- The part once a beacon has been received and passed to the neighbour table (R108, R109). -/
def State.beaconTaken (s : State) : State :=
  { s with lc := { s.lc with counters := { s.lc.counters with
      receivedGood := bump s.lc.counters.receivedGood, beaconsTaken := bump s.lc.counters.beaconsTaken } } }

end Sys2Proof.Machine
end

