-- ==== Sys2Proof/Certificates/Slice0/Obligations.lean ====
section
/-! DEFINITION. The statements for the provers: the whole part, then block by block. -/

open Sys2Proof Sys2Proof.Machine

/-! ## The whole part -/

/-- A step takes the command at the front of the queue and runs it on the queue's rest (log 1). On an empty queue time
passes, a quarter of a millisecond at a step (R45, R46, R59; the model's own, log 2): without power nothing happens; the
part's own event that is due runs first, with the next free values drawn (log 5), a compare match before all others;
with nothing due the periods that run are shortened, the phase rises at the fourth quarter, the interval boundary runs
where the phase would reach 60,000, and the beacon-due event where the phase reaches the offset, before the events whose
periods run out at that moment (log 52). -/
def Obligations.StepRunsFrontCommand : Prop :=
  (∀ (c : Instr) (s : State), step { s with pending := c :: s.pending } = exec c s)
  ∧ ∀ s : State, s.pending = [] →
    (s.powered = false → step s = .next s)
    ∧ (∀ i, s.powered = true → dueEvent s = some i → step s = exec i { s with inputs := s.inputs + 1 })
    ∧ (∀ c, s.tb.compare = some c → c ≤ s.tb.phase → dueEvent s = some .compareMatch)
    ∧ (dueEvent s = none ↔
        (∀ c, s.tb.compare = some c → s.tb.phase < c) ∧ (s.mc.burst ≠ .idle → s.timers.burst ≠ 0)
          ∧ (s.lc.tx = .wait ∨ s.lc.tx = .backoff ∨ s.lc.tx = .sending → s.timers.tx ≠ 0)
          ∧ (s.es.state ≠ .idle → s.timers.store ≠ 0)
          ∧ (s.es.criticalWaiting = true → QueueRecord.checkpoint none ∉ s.es.queue ∧ 4 ≤ s.es.queue.length)
          ∧ s.closingReady = false ∧ s.haltReady = false)
    ∧ (s.powered = true → dueEvent s = none →
        let u : State := { s with timers := ⟨s.timers.burst - 1, s.timers.tx - 1, s.timers.store - 1⟩ }
        let v : State := { u with tb := { s.tb with phase := s.tb.phase + 1, quarter := 0 } }
        (s.tb.quarter < 3 → step s = .next { u with tb := { s.tb with quarter := s.tb.quarter + 1 } })
        ∧ (3 ≤ s.tb.quarter → 59999 ≤ s.tb.phase → step s = exec .intervalBoundary u)
        ∧ (3 ≤ s.tb.quarter → s.tb.phase < 59999 → s.tb.phase + 1 ≠ s.tb.beaconOffset → step s = .next v)
        ∧ (3 ≤ s.tb.quarter → s.tb.phase < 59999 → s.tb.phase + 1 = s.tb.beaconOffset →
            step s = exec (.beaconDue (Config.freeBusy (2 * s.inputs))) { v with inputs := s.inputs + 1 }))

/-- Every command answers a next state: no rule stops the part (chapter 11, "A noted fault does not stop the part").
None touches the queue of the commands that wait, the read-only information store (00_scope.md), or the count of the
free values drawn (log 1, log 5). -/
def Obligations.EveryCommandCompletes : Prop :=
  ∀ (i : Instr) (s : State),
    ∃ t, exec i s = .next t ∧ t.pending = s.pending ∧ t.info = s.info ∧ t.inputs = s.inputs

/-- The state after reset is sound in every block. Which tag and which cell reset shows is the model's choice (log 6,
log 7). -/
def Obligations.ResetIsSound : Prop := State.reset.Sound

/-- The values that a power-on of an empty store gives (R17, R22, R60, R106, R124, R169, R179, R182), with the model's
choice of serial, store and cell (log 6, log 7). -/
def Obligations.ResetValues : Prop :=
  State.reset.cu = ⟨.blank, ⟨false, false, false, false, false, false⟩, none, none, none, none, [], none⟩
    ∧ State.reset.mc = ⟨.idle, ⟨false, false, false⟩, none⟩
    ∧ State.reset.tb.interval = 0 ∧ State.reset.tb.phase = 0 ∧ State.reset.tb.mode = .steady
    ∧ State.reset.tb.fastUntil = 0 ∧ State.reset.tb.compare = some 0 ∧ State.reset.tb.period = 30000
    ∧ State.reset.tb.buffer = 30000 ∧ State.reset.tb.riseRef = none ∧ State.reset.tb.riseBuffer = none
    ∧ State.reset.tb.alertInterval = none
    ∧ State.reset.ie = ⟨none, none, ⟨0, 0⟩, 0, false, none, 0, ⟨0, 0, 0, 0, 0, 0, 0⟩, 0, [], none⟩
    ∧ State.reset.nt = List.replicate 24 none
    ∧ State.reset.lc =
        ⟨true, .wait, none, none, none, none, 0, State.reset.info.serial.truncate 16, none, 0, none, none,
          ⟨0, 0, 0, 0, 0, 0, 0, 0, 0, 0⟩⟩
    ∧ State.reset.es = ⟨.idle, [], 0, none, none, none, none, 0, ⟨0, 0, 0, 0⟩, 0, 0, false, false, none⟩
    ∧ State.reset.sf = ⟨.good, .running, false, 0, none, false, 0⟩
    ∧ State.reset.pending = []

/-- Every step keeps what R179 says of the fault status. -/
def Obligations.StepKeepsFaultStatus : Prop :=
  ∀ s t : State, s.sf.FaultsSound → step s = .next t → t.sf.FaultsSound

/-- Every step keeps the neighbour table as R89 and R90 have it: 24 slots, no serial twice, never the own serial, no
age above 5, figures present exactly under coverage OWN, AIR and WITNESS. -/
def Obligations.StepKeepsNeighbourTable : Prop :=
  ∀ s t : State, TableSound s.info.serial s.nt → step s = .next t → TableSound t.info.serial t.nt

/-- Every step keeps the schedule sound: the mode is always the one that R49's table selects (after an extension at
interval number 16,777,215 too, the model's choice, log 50), the buffer holds its period (R51), and every value of R44
stays in its range. Fast-until, the alert interval and the rise captures do so with what they come from: the start
capture in flight and the fast-until of the checkpoints stored and in the queue. -/
def Obligations.StepKeepsSchedule : Prop :=
  (∀ s t : State, s.ScheduleSound → step s = .next t → t.ScheduleSound)
  ∧ ∀ s t : State, s.ScheduleSound → s.CapturesSound → step s = .next t → t.CapturesSound

/-- Every step keeps the radio sound: the line follows the activity and the halt (R107), and the transmitter's state,
its slots, its served slot and its generator agree (R106, R115 to R118). -/
def Obligations.StepKeepsRadio : Prop :=
  ∀ s t : State, s.RadioSound → step s = .next t → t.RadioSound

/-- Every step keeps the converter sound: nothing pends while it is IDLE (R23), no burst runs while HALTED or with the
halt pending (R171), every LIVE record waits for a SPOT (R114), and a close waits only for a credited burst (R65). -/
def Obligations.StepKeepsConverter : Prop :=
  ∀ s t : State, s.RadioSound → s.ConverterSound → step s = .next t → t.ConverterSound

/-- Every step keeps custody sound: causes and BROKEN agree (R3), custody start and CHILLED agree (R4), the open leg
and the accumulators follow the state (R63, R135), COMMISSIONING and CLOSING always have what ends them (R5, R14). -/
def Obligations.StepKeepsCustody : Prop :=
  ∀ s t : State, s.RadioSound → s.StoreSound → s.CustodySound → step s = .next t → t.CustodySound

/-- Every step keeps the store within its bounds (R83, R123, R125, R133, R141), its state with its queue (R127, R130),
and the stored episodes in the slots 0 to the stored count less one (R124, R133, R175). -/
def Obligations.StepKeepsStore : Prop :=
  ∀ s t : State, s.RadioSound → s.StoreSound → s.EpisodesFilled → step s = .next t → t.StoreSound ∧ t.EpisodesFilled

/-- Every step keeps what the exposure engine holds sound: W and C in range and 0 before custody (R62, R74), the gap
run at most 255, and the interval numbers of the ring strictly rising (R83). -/
def Obligations.StepKeepsExposure : Prop :=
  ∀ s t : State, s.ScheduleSound → s.CustodySound → s.ExposureSound → step s = .next t → t.ExposureSound

/-- A sticky code stays in the set through every command but the completion of an erase, a loss of retention memory
and a power-on (R179). -/
def Obligations.StickySetOnlyGrows : Prop :=
  ∀ (i : Instr) (s t : State), exec i s = .next t →
    (s.cu.custody = .erasing ∧ ∃ b, i = .eraseComplete b) ∨ i = .retentionLoss ∨ (∃ mv, i = .powerOn mv)
      ∨ s.sf.sticky ||| t.sf.sticky = t.sf.sticky

/-- What the store holds is durable (R123, R133, R142): but for the completion of an erase, and a power-on that
finishes one, no command removes the profile record, the certificate record, a leg record or a set erase marker, and
every episode slot but the next one to be written keeps its content. A leg slot that held a record loses it only to the
writing of a leg of its own number (log 37). -/
def Obligations.StoredRecordsEndOnlyByErase : Prop :=
  ∀ (i : Instr) (s t : State), exec i s = .next t →
    let rewrites (u : State) (k : Nat) : Prop :=
      u.es.state = .writing ∧ ∃ l rest, u.es.queue = .leg l :: rest ∧ k = l.number - 1
    (s.cu.custody = .erasing ∧ ∃ b, i = .eraseComplete b)
      ∨ (s.nv.eraseMarker = true ∧ ∃ mv, i = .powerOn mv)
      ∨ ((s.nv.profile.isSome = true → t.nv.profile.isSome = true)
          ∧ (s.nv.certificate.isSome = true → t.nv.certificate.isSome = true)
          ∧ (∀ k, k ≠ s.es.storedCount → t.nv.episodes[k]? = s.nv.episodes[k]?)
          ∧ (∀ k, t.nv.legs[k]? = s.nv.legs[k]? ∨ rewrites s k ∨ rewrites t k)
          ∧ (s.nv.eraseMarker = true → t.nv.eraseMarker = true))

/-- The custody state moves only along a consignment's life, and the break cause set only grows, with its break
interval fixed by its first members: through every command but a power-on, a loss of retention memory and, for the
causes, the completion of an erase (R3, R5 to R17). A single step can close two intervals when one was deferred, so
that PRECOOL can reach EXCURSION in it. -/
def Obligations.CustodyMoves : Prop :=
  ∀ (i : Instr) (s t : State), s.CustodySound → i ≠ .retentionLoss → (∀ mv, i ≠ .powerOn mv) → exec i s = .next t →
    (match s.cu.custody with
      | .blank => t.cu.custody = .blank ∨ t.cu.custody = .commissioning
      | .commissioning => t.cu.custody = .commissioning ∨ t.cu.custody = .precool ∨ t.cu.custody = .blank
      | .precool => t.cu.custody.inService = true ∨ t.cu.custody = .closing
      | .chilled | .excursion =>
        t.cu.custody = .chilled ∨ t.cu.custody = .excursion ∨ t.cu.custody = .broken ∨ t.cu.custody = .closing
      | .broken => t.cu.custody = .broken ∨ t.cu.custody = .closing
      | .closing => t.cu.custody = .closing ∨ t.cu.custody = .closed
      | .closed => t.cu.custody = .closed ∨ t.cu.custody = .erasing
      | .erasing => t.cu.custody = .erasing ∨ t.cu.custody = .blank)
    ∧ (s.cu.custody ≠ .erasing ∨ t.cu.custody = .erasing →
        s.cu.causes.union t.cu.causes = t.cu.causes
          ∧ (s.cu.causes.nonempty = true → t.cu.breakInterval = s.cu.breakInterval))

/-- The certificate's content, and its freeze. Each field is its owner's at the moment (R160; so a PEER_OVERFLOW noted
in CLOSING before the freeze is in it, log 48), the end interval the last one closed (R162); the grade takes R164's
cases in their order; the overall figures are the extremes over the legs found, as the open leg, as queued or as stored,
and the others are counted not stored (R163; a closed leg that CU has still to hand over counts as queued, log 23, an
older record in the slot of a leg that was dropped at a full queue as stored, log 45, and of a leg in two places the
open or the queued record alone, log 49); both pages end with the CRC over the 81 content bytes (R167, R168). In CLOSED
every page is taken from the record, or from the copy in retention (R166), and through every command that leaves the
part CLOSED the certificate stays what it was; in any other state it is computed afresh and provisional (R161). -/
def Obligations.CertificateComputedAndFrozen : Prop :=
  (∀ (provisional : Bool) (s : State),
    let c := computeCertificate provisional s
    let found (k : Nat) (l : Leg) : Prop := 1 ≤ k ∧ k ≤ s.es.legCount ∧ (legPlace k s).leg? = some l
    c.serial = s.info.serial ∧ c.consignment = (s.cu.commissioned.map (·.consignment)).getD []
    ∧ c.carrier = s.profile.carrier ∧ c.provisional = provisional ∧ c.custodyStart = s.cu.custodyStart
    ∧ c.endInterval = s.ie.lastClosed ∧ c.causes = s.cu.causes ∧ c.breakInterval = s.cu.breakInterval
    ∧ c.exposure = s.ie.exposure ∧ c.budgets = ⟨s.profile.warmBudget, s.profile.coldBudget⟩
    ∧ c.counts = s.ie.counts ∧ c.gapRun = s.ie.gapRun ∧ c.legCount = s.es.legCount
    ∧ c.episodes = s.es.storedCount + s.es.overflow.folded ∧ c.sticky = s.sf.sticky
    ∧ c.grade =
        (if c.custodyStart = none then .notStarted
          else if c.causes ≠ ⟨false, false, false, false, false, false⟩ then .broken
          else if c.counts.air = 0 ∧ c.counts.witness = 0 ∧ c.counts.bridged = 0 ∧ c.counts.unbridged = 0
            ∧ c.counts.lost = 0 ∧ c.counts.raised = 0 ∧ c.gapRun = 0 then .clean
          else .supported)
    ∧ c.legsNotStored = (List.range s.es.legCount).countP (fun k => (legPlace (k + 1) s).leg?.isNone)
    ∧ (c.figures = none ↔ ∀ k l, found k l → l.figures = none)
    ∧ (∀ f, c.figures = some f →
        (∃ k l g, found k l ∧ l.figures = some g ∧ g.hi = f.hi)
          ∧ (∃ k l g, found k l ∧ l.figures = some g ∧ g.lo = f.lo)
          ∧ ∀ k l g, found k l → l.figures = some g → g.hi ≤ f.hi ∧ f.lo ≤ g.lo)
    ∧ (c.contentA ++ c.contentB).length = 81 ∧ c.crc = crc16 (c.contentA ++ c.contentB)
    ∧ c.pageA = c.contentA ++ beBytes 2 c.crc.toNat ∧ c.pageB = c.contentB ++ beBytes 2 c.crc.toNat)
  ∧ (∀ (k : Nat) (s : State),
    let queued (l : Leg) : Prop :=
      (QueueRecord.leg l ∈ s.es.queue ∨ ClosingItem.leg l ∈ s.cu.closing) ∧ l.number = k
    (∀ l, s.es.openLeg = some l → l.number = k → legPlace k s = .opened l)
    ∧ ((∀ l, s.es.openLeg = some l → l.number ≠ k) →
        (∀ l, queued l → ∃ l', queued l' ∧ legPlace k s = .queued l')
        ∧ ((∀ l, ¬ queued l) →
            (∀ l, s.nv.legs[k - 1]? = some (some l) → legPlace k s = .stored l)
            ∧ ((∀ l, s.nv.legs[k - 1]? ≠ some (some l)) → legPlace k s = .notStored))))
  ∧ (∀ s : State, (s.cu.custody ≠ .closed → certificateNow s = computeCertificate true s)
    ∧ (∀ c, s.cu.custody = .closed → s.nv.certificate = some c → certificateNow s = c)
    ∧ (∀ c, s.cu.custody = .closed → s.nv.certificate = none → s.cu.certificate = some c → certificateNow s = c))
  ∧ ∀ (i : Instr) (s t : State), s.CustodySound → i ≠ .retentionLoss → (∀ mv, i ≠ .powerOn mv) → exec i s = .next t →
      s.cu.custody = .closed → (s.nv.certificate.isSome = true ∨ s.cu.certificate.isSome = true) →
      t.cu.custody = .closed → certificateNow t = certificateNow s

/-! ## Fault notes and frames -/

/-- Noting a fault (R180): the code enters the sticky set, the unread count rises and stops at 255, and the context
takes the note when it was empty; when it was full the multiple flag is set. Nothing else changes. -/
def Obligations.NotingAFault : Prop :=
  ∀ (code : FaultCode) (at_ : Capture) (datum : List Byte) (s : State),
    note code at_ datum s =
      { s with sf := { s.sf with
          sticky := s.sf.sticky ||| (1#22 <<< (code.number - 1))
          unread := min 255 (s.sf.unread + 1)
          context :=
            if s.sf.context = none then some ⟨code, at_.interval, at_.phase, (datum ++ List.replicate 8 0).take 8⟩
            else s.sf.context
          multiple := s.sf.multiple || decide (s.sf.context ≠ none) } }

/-- A frame whose CRC agrees runs the command that it spells: laying a command frame or a beacon out in bytes with its
CRC and receiving those bytes does what the command's own row does, with every field at every value (R108, R109, R120
to R122). No bit of a frame is dropped on the way. -/
def Obligations.FramesRunTheirCommands : Prop :=
  (∀ (i : Instr) (kind : CommandKind) (f : CommandFrame) (busy : Bool) (quality : Byte) (s : State),
    readerCommand i = some (kind, f, busy) →
      ∃ t, exec (.frameReceived (commandBytes kind.byte f) quality busy) s = .next t ∧ exec i s = .next t)
  ∧ ∀ (b : BeaconFrame) (quality : Byte) (busy : Bool) (s : State),
      ∃ t, exec (.frameReceived (beaconBytes b) quality busy) s = .next t ∧ exec (.beacon b quality) s = .next t

/-- A whole correct frame, CRC bytes included, has the CRC 0 (R120). -/
def Obligations.WholeFrameCrcIsZero : Prop := ∀ bytes : List Byte, crc16 (withCrc bytes) = 0#16

/-- Frames and commands that are not taken. A frame with a CRC that differs is counted and CRC_ERROR noted with its
link quality; one with a CRC that agrees but a kind of no command and no beacon (a REPLY among them), a beacon of a
length other than 20 or in BLANK, COMMISSIONING or CLOSED, or a command frame of fewer than 13 bytes is counted as
good and as discarded (R108 to R110). A reader command addressed to another part is discarded without a reply; in
COMMISSIONING and ERASING, and in CLOSING unless it is a QUERY, it is answered BUSY whatever its length; with a length
field or a payload that its kind does not require it is answered BAD_LENGTH (R110). Nothing else changes. A frame that
the transceiver does not deliver changes nothing (log 10): it delivers none while its line is off, in WAIT, and in
SENDING as long as the part's own frame is on the air, a free value (R107, chapter 6.2; log 51), and delivers otherwise. -/
def Obligations.FrameOrCommandTurnedAway : Prop :=
  (∀ (frame : List Byte) (quality : Byte) (busy : Bool) (s : State), s.Receives →
    (crcAgrees frame = false →
      exec (.frameReceived frame quality busy) s = .next (noteNow .crcError [quality]
        { s with lc := { s.lc with counters := { s.lc.counters with crcErrors := bump s.lc.counters.crcErrors } } }))
    ∧ (crcAgrees frame = true →
        ((frame.headD 0 ≠ 0x1B#8 ∧ (frame.headD 0 < 0x41#8 ∨ 0x46#8 < frame.headD 0))
          ∨ (frame.headD 0 = 0x1B#8 ∧ frame.length ≠ 20)
          ∨ (frame.headD 0 = 0x1B#8
              ∧ (s.cu.custody = .blank ∨ s.cu.custody = .commissioning ∨ s.cu.custody = .closed))
          ∨ (0x41#8 ≤ frame.headD 0 ∧ frame.headD 0 ≤ 0x46#8 ∧ frame.length < 13)) →
        exec (.frameReceived frame quality busy) s = .next s.frameDiscarded))
  ∧ (∀ (i : Instr) (kind : CommandKind) (f : CommandFrame) (busy : Bool) (s : State),
    readerCommand i = some (kind, f, busy) → s.Receives →
    (f.target ≠ s.info.serial → exec i s = .next s.frameDiscarded)
    ∧ (f.target = s.info.serial →
        s.cu.custody = .commissioning ∨ s.cu.custody = .erasing ∨ (s.cu.custody = .closing ∧ kind ≠ .query) →
        exec i s = .next (placeReply ⟨askerOf f, .busy, 0, []⟩ busy s.taken))
    ∧ (f.target = s.info.serial → busyState kind s.cu.custody = false →
        f.length.toNat ≠ f.payload.length ∨ 48 < f.payload.length ∨ lengthFits kind f.payload = false →
        exec i s = .next (placeReply ⟨askerOf f, .badLength, 0, []⟩ busy s.taken)))
  ∧ (∀ s : State, s.hears = false →
    (∀ i kind f busy, readerCommand i = some (kind, f, busy) → exec i s = .next s)
    ∧ (∀ frame quality busy, exec (.frameReceived frame quality busy) s = .next s)
    ∧ (∀ b quality, exec (.beacon b quality) s = .next s))
  ∧ ∀ s : State,
    (s.lc.enable = false ∨ s.lc.tx = .wait → s.hears = false)
    ∧ (s.lc.enable = true → s.lc.tx ≠ .wait → s.lc.tx ≠ .sending → s.hears = true)
    ∧ (∀ a, s.lc.enable = true → s.lc.tx = .sending → s.lc.onAir = some a →
        s.hears = !Config.freeOnAir a.frame ⟨s.tb.interval, s.tb.phase⟩ s.timers.tx)

/-- A reply placed (R114, R107): with the transceiver off it is discarded; behind a transmitter at work it waits in
its slot with its ready capture, and one that waited there is dropped, counted and noted, with the attempts begun anew
in a backoff; an idle transmitter senses at once, and sends it on an idle channel or backs off with one step of the
generator on a busy one (R115 to R118). -/
def Obligations.ReplyPlaced : Prop :=
  ∀ (r : Reply) (busy : Bool) (s : State),
    (s.lc.enable = false → placeReply r busy s = s)
    ∧ (s.lc.enable = true → s.lc.tx ≠ .idle → s.lc.replySlot = none →
        placeReply r busy s = { s with lc := { s.lc with replySlot := some ⟨r, replyFrame r s, s.now⟩ } })
    ∧ (∀ old, s.lc.enable = true → s.lc.tx ≠ .idle → s.lc.replySlot = some old →
        placeReply r busy s =
          noteNow .replyDropped (1 :: serialBytes old.reply.asker.reader)
            { s with lc := { s.lc with
                replySlot := some ⟨r, replyFrame r s, s.now⟩
                attempts := if s.lc.tx = .backoff ∧ s.lc.served = some .reply then 0 else s.lc.attempts
                counters := { s.lc.counters with repliesDropped := bump s.lc.counters.repliesDropped } } })
    ∧ (s.lc.enable = true → s.lc.tx = .idle → s.lc.replySlot = none → s.lc.beaconSlot = none → busy = false →
        placeReply r busy s =
          { s with
            lc := { s.lc with
              tx := .sending, served := some .reply, attempts := 0, onAir := some ⟨.reply, replyFrame r s⟩ }
            timers := { s.timers with tx := 80 } })
    ∧ (s.lc.enable = true → s.lc.tx = .idle → s.lc.replySlot = none → s.lc.beaconSlot = none → busy = true →
        placeReply r busy s =
          { s with
            lc := { s.lc with
              tx := .backoff, served := some .reply, attempts := 1
              replySlot := some ⟨r, replyFrame r s, s.now⟩, generator := lfsrStep s.lc.generator
              counters := { s.lc.counters with busySenses := bump s.lc.counters.busySenses } }
            timers := { s.timers with tx := 4 * (((lfsrStep s.lc.generator).toNat % 8 + 1) * 8) } })

/-! ## Reader commands -/

/-- COMMISSION (R5): when the check accepts it in BLANK, profile and ID are held, leg 1 is open with the profile's
codes, start 0 and the commander's serial, the profile record is in its write, COMMISSIONING is entered and the
command held, and no reply is placed; refused in BLANK it is answered BAD_PROFILE with every block's state unchanged;
elsewhere it is answered NOT_BLANK with the consignment ID that is held, or BUSY. Beside this only two link counters
change. -/
def Obligations.CommissionTaken : Prop :=
  (∀ (f : CommandFrame) (busy : Bool) (s : State) (r : ProfileRecord), s.Takes .commission f → s.cu.custody = .blank →
    s.es.queue = [] → s.es.state = .idle → s.es.criticalWaiting = false → s.sf.activity = .running →
    checkProfile f.payload = some r →
    exec (.commission f busy) s = .next
      { s.taken with
        cu := { s.cu with commissioned := some r, custody := .commissioning, held := some (askerOf f) }
        es := { s.es with
          openLeg := some
            ⟨1, r.profile.compartment, r.profile.carrier, 0, none, none, ⟨0, 0⟩, 0, 0, 0, 0, f.reader⟩
          legCount := 1, queue := [.profile r], state := .writing }
        timers := { s.timers with store := 32 } })
  ∧ (∀ (f : CommandFrame) (busy : Bool) (s : State), s.Takes .commission f →
    (s.cu.custody = .blank → checkProfile f.payload = none →
      exec (.commission f busy) s = .next (placeReply ⟨askerOf f, .badProfile, 0, []⟩ busy s.taken))
    ∧ (s.cu.custody ≠ .blank →
        exec (.commission f busy) s = .next
          (placeReply
            ⟨askerOf f, .notBlank, 0, idBytes ((s.cu.commissioned.map (·.consignment)).getD [])⟩ busy s.taken)))
  ∧ (∀ (f : CommandFrame) (busy : Bool) (s : State), s.Receives → f.target = s.info.serial →
    s.cu.custody = .commissioning ∨ s.cu.custody = .closing ∨ s.cu.custody = .erasing →
    exec (.commission f busy) s = .next (placeReply ⟨askerOf f, .busy, 0, []⟩ busy s.taken))

/-- What the profile check stores is in R20's ranges, whatever the payload (R21); it refuses exactly an ID length of 0
or above 16, a compartment code of 0, and a chill range below 50 after clamping. The fields are read from the payload in
the order, the widths and the signs of R20's table, behind the ID; each field with a range is stored clamped into its
range, the peak ceiling from the clamped U + 50 up, and the options, the quality floor and both codes are stored as
sent. -/
def Obligations.CheckedProfileInRange : Prop :=
  ∀ payload : List Byte,
    let unsigned (at_ k : Nat) : Nat :=
      ((payload.drop (1 + fieldAt payload 0 1 + at_)).take k).foldl (fun acc b => acc * 256 + b.toNat) 0
    let signed (at_ : Nat) : Int := (BitVec.ofNat 16 (unsigned at_ 2)).toInt
    let clamp (lo hi x : Int) : Int := max lo (min hi x)
    (checkProfile payload = none ↔
      fieldAt payload 0 1 = 0 ∨ 16 < fieldAt payload 0 1
        ∨ (profileOf (payload.drop (1 + fieldAt payload 0 1))).compartment = 0
        ∨ clampTo (-3000) 3000 (profileOf (payload.drop (1 + fieldAt payload 0 1))).upper
            - clampTo (-3000) 3000 (profileOf (payload.drop (1 + fieldAt payload 0 1))).lower < 50)
    ∧ fieldAt payload 0 1 = (payload.headD 0).toNat
    ∧ (profileOf (payload.drop (1 + fieldAt payload 0 1))).compartment = unsigned 26 2
    ∧ (profileOf (payload.drop (1 + fieldAt payload 0 1))).upper = signed 0
    ∧ (profileOf (payload.drop (1 + fieldAt payload 0 1))).lower = signed 2
    ∧ ∀ r, checkProfile payload = some r →
        r.consignment = (payload.drop 1).take (fieldAt payload 0 1)
        ∧ -3000 ≤ r.profile.lower ∧ r.profile.lower + 50 ≤ r.profile.upper ∧ r.profile.upper ≤ 3000
        ∧ r.profile.upper + 50 ≤ r.profile.peak ∧ r.profile.peak ≤ 4000
        ∧ r.profile.warmBudget ≤ 1000000 ∧ r.profile.coldBudget ≤ 1000000 ∧ r.profile.gapAllowance ≤ 15
        ∧ 1 ≤ r.profile.precoolLimit ∧ r.profile.precoolLimit ≤ 240
        ∧ 0 ≤ r.profile.airMargin ∧ r.profile.airMargin ≤ 300
        ∧ 0 ≤ r.profile.witnessMargin ∧ r.profile.witnessMargin ≤ 300
        ∧ 10 ≤ r.profile.riseThreshold ∧ r.profile.riseThreshold ≤ 500
        ∧ 50 ≤ r.profile.disagreement ∧ r.profile.disagreement ≤ 500
        ∧ r.profile.compartment ≠ 0
        ∧ r.profile =
            { upper := clamp (-3000) 3000 (signed 0), lower := clamp (-3000) 3000 (signed 2)
              peak := clamp (clamp (-3000) 3000 (signed 0) + 50) 4000 (signed 4)
              warmBudget := min 1000000 (unsigned 6 4), coldBudget := min 1000000 (unsigned 10 4)
              gapAllowance := min 15 (unsigned 14 1), precoolLimit := max 1 (min 240 (unsigned 15 1))
              airUse := (unsigned 16 1).testBit 0, witnessUse := (unsigned 16 1).testBit 1
              airMargin := clamp 0 300 (signed 17), witnessMargin := clamp 0 300 (signed 19)
              qualityFloor := unsigned 21 1, riseThreshold := clamp 10 500 (signed 22)
              disagreement := clamp 50 500 (signed 24), compartment := unsigned 26 2, carrier := unsigned 28 2 }

/-- HANDOVER by the expected-leg rule (R149, R137): to the next leg, the open leg closes at the current interval and
its record is offered, the next leg opens at the same interval with the codes and the reader of the command and
nothing counted, the leg count rises, and OK answers with the new leg; custody, exposure, the timebase and the
converter keep what they held. Every other row of the rule changes nothing but the reply: OK for the leg that is open
with the same codes, LEG_MISMATCH, LEGS_FULL. A zero compartment code is answered BAD_PROFILE, and CLOSED or
NOT_COMMISSIONED where no leg can be handed over (R148, R19). -/
def Obligations.HandoverJudged : Prop :=
  (∀ (f : CommandFrame) (busy : Bool) (s : State) (l : Leg), s.Takes .handover f → s.cu.custody.inService = true →
    s.es.openLeg = some l → fieldAt f.payload 0 2 ≠ 0 → fieldAt f.payload 4 1 = l.number + 1 → s.es.legCount < 16 →
    let new : Leg := ⟨l.number + 1, fieldAt f.payload 0 2, fieldAt f.payload 2 2, s.tb.interval, none, none, ⟨0, 0⟩,
      0, 0, 0, 0, f.reader⟩
    ∃ u t, exec (.handover f busy) s = .next t
      ∧ u = offer (.leg { l with finish := some s.tb.interval })
          { s.taken with es := { s.es with openLeg := some new, legCount := s.es.legCount + 1 } }
      ∧ t = placeReply ⟨askerOf f, .ok, 0, legAnswer new⟩ busy u
      ∧ t.es.openLeg = some new ∧ t.es.legCount = s.es.legCount + 1
      ∧ t.cu = s.cu ∧ t.mc = s.mc ∧ t.tb = s.tb ∧ t.ie = s.ie ∧ t.nt = s.nt)
  ∧ (∀ (f : CommandFrame) (busy : Bool) (s : State), s.Takes .handover f →
    (∀ l, s.cu.custody.inService = true → s.es.openLeg = some l →
      let reply (status : Status) := placeReply ⟨askerOf f, status, 0, legAnswer l⟩ busy s.taken
      fieldAt f.payload 0 2 ≠ 0 →
      (fieldAt f.payload 4 1 = l.number → fieldAt f.payload 0 2 = l.compartment → fieldAt f.payload 2 2 = l.carrier →
        exec (.handover f busy) s = .next (reply .ok))
      ∧ (fieldAt f.payload 4 1 = l.number →
          fieldAt f.payload 0 2 ≠ l.compartment ∨ fieldAt f.payload 2 2 ≠ l.carrier →
          exec (.handover f busy) s = .next (reply .legMismatch))
      ∧ (fieldAt f.payload 4 1 = l.number + 1 → 16 ≤ s.es.legCount →
          exec (.handover f busy) s = .next (reply .legsFull))
      ∧ (fieldAt f.payload 4 1 ≠ l.number → fieldAt f.payload 4 1 ≠ l.number + 1 →
          exec (.handover f busy) s = .next (reply .legMismatch)))
    ∧ (s.cu.custody.inService = true → fieldAt f.payload 0 2 = 0 →
        exec (.handover f busy) s = .next (placeReply ⟨askerOf f, .badProfile, 0, []⟩ busy s.taken))
    ∧ (s.cu.custody = .closed →
        exec (.handover f busy) s = .next (placeReply ⟨askerOf f, .closed, 0, []⟩ busy s.taken))
    ∧ (s.cu.custody = .blank →
        exec (.handover f busy) s = .next (placeReply ⟨askerOf f, .notCommissioned, 0, []⟩ busy s.taken)))

/-- A QUERY of a page with content answers OK with the page's code and content (R151, R153 to R156, R183), in any state
that is not COMMISSIONING or ERASING: PROFILE, PEERS, FAULTS and STATUS in BLANK too, the others from PRECOOL on. Every
page is formed, and FAULTS empties the context, the multiple flag and the unread count, before its reply can replace
another and so count and note it: that order is the model's choice for each of the pages, CERT_A, CERT_B and STATUS
among them (log 13). The other pages change the link controller alone, but that SF takes the note of a reply that theirs
replaces. -/
def Obligations.QueryAnswered : Prop :=
  ∀ (q : QueryFrame) (busy : Bool) (s : State),
    let reply (page : Nat) (payload : List Byte) := placeReply ⟨⟨q.reader, q.seq⟩, .ok, page, payload⟩ busy
    let takes (page : Byte) := s.Takes .query (queryCommand q page)
    let index := q.index.toNat
    (s.cu.custody ≠ .blank →
      (takes 1 → exec (.queryCertA q busy) s = .next (reply 1 (certificateNow s).pageA s.taken))
      ∧ (takes 2 → exec (.queryCertB q busy) s = .next (reply 2 (certificateNow s).pageB s.taken))
      ∧ (takes 4 → ∀ page, legPage index s = some page →
          exec (.queryLeg q busy) s = .next (reply 4 page s.taken))
      ∧ (takes 5 → ∀ e, index < s.es.storedCount → s.nv.episodes[index]? = some (some e) →
          exec (.queryEpisode q busy) s = .next (reply 5 e.bytes s.taken))
      ∧ (takes 6 → ∀ page, openPage index s = some page →
          exec (.queryOpen q busy) s = .next (reply 6 page s.taken))
      ∧ (takes 7 → exec (.queryOverflow q busy) s = .next (reply 7 (overflowPage s) s.taken))
      ∧ (takes 8 → ∀ r, s.ie.history[index]? = some r →
          exec (.queryHistory q busy) s = .next (reply 8 r.bytes s.taken)))
    ∧ (takes 3 → exec (.queryProfile q busy) s =
        .next (reply 3 ((s.cu.commissioned.map (·.bytes)).getD []) s.taken))
    ∧ (takes 9 → ∀ slot, s.nt[index]? = some slot →
        exec (.queryPeers q busy) s = .next (reply 9 (slotBytes slot) s.taken))
    ∧ (takes 10 → exec (.queryFaults q busy) s = .next (reply 10 (faultsPage s)
        { s.taken with sf := { s.sf with context := none, multiple := false, unread := 0 } }))
    ∧ (takes 11 → index = 0 → exec (.queryStatus q busy) s = .next (reply 11 (statusPage0 s) s.taken))
    ∧ (takes 11 → index = 1 → exec (.queryStatus q busy) s = .next (reply 11 (statusPage1 s) s.taken))
    ∧ (takes 11 → index = 2 → exec (.queryStatus q busy) s = .next (reply 11 (statusPage2 s.taken) s.taken))

/-- A QUERY without an answer of content (R151): a page code of 0 or above 11 and an index out of its page's range
answer BAD_INDEX, and CERT, LEG, EPISODE, OPEN, OVERFLOW and HISTORY answer NOT_COMMISSIONED in BLANK whatever the
index. Nothing but the link controller changes. -/
def Obligations.QueryRefused : Prop :=
  ∀ (q : QueryFrame) (busy : Bool) (s : State),
    let badIndex := placeReply ⟨⟨q.reader, q.seq⟩, .badIndex, 0, []⟩ busy s.taken
    let notCommissioned := placeReply ⟨⟨q.reader, q.seq⟩, .notCommissioned, 0, []⟩ busy s.taken
    let takes (page : Byte) := s.Takes .query (queryCommand q page)
    let index := q.index.toNat
    (∀ page : Byte, takes page → page = 0 ∨ 11 < page.toNat → exec (.queryBadPage q page busy) s = .next badIndex)
    ∧ (s.cu.custody = .blank →
        (takes 1 → exec (.queryCertA q busy) s = .next notCommissioned)
        ∧ (takes 2 → exec (.queryCertB q busy) s = .next notCommissioned)
        ∧ (takes 4 → exec (.queryLeg q busy) s = .next notCommissioned)
        ∧ (takes 5 → exec (.queryEpisode q busy) s = .next notCommissioned)
        ∧ (takes 6 → exec (.queryOpen q busy) s = .next notCommissioned)
        ∧ (takes 7 → exec (.queryOverflow q busy) s = .next notCommissioned)
        ∧ (takes 8 → exec (.queryHistory q busy) s = .next notCommissioned))
    ∧ (s.cu.custody ≠ .blank →
        (takes 4 → index = 0 ∨ s.es.legCount < index → exec (.queryLeg q busy) s = .next badIndex)
        ∧ (takes 5 → s.es.storedCount ≤ index → exec (.queryEpisode q busy) s = .next badIndex)
        ∧ (takes 6 → 4 ≤ index → exec (.queryOpen q busy) s = .next badIndex)
        ∧ (takes 8 → s.ie.history.length ≤ index → exec (.queryHistory q busy) s = .next badIndex))
    ∧ (takes 9 → s.nt.length ≤ index → exec (.queryPeers q busy) s = .next badIndex)
    ∧ (takes 11 → 3 ≤ index → exec (.queryStatus q busy) s = .next badIndex)

/-- The frame of every reader command that only answers: no QUERY touches custody, the converter, the timebase, the
exposure engine, the table, the store, its areas or the sticky codes already set, and it leaves the supply and the
activity (R151, R155). -/
def Obligations.QueriesOnlyRead : Prop :=
  ∀ (i : Instr) (f : CommandFrame) (busy : Bool) (s t : State), readerCommand i = some (.query, f, busy) →
    exec i s = .next t →
    t.cu = s.cu ∧ t.mc = s.mc ∧ t.tb = s.tb ∧ t.ie = s.ie ∧ t.nt = s.nt ∧ t.es = s.es ∧ t.nv = s.nv
      ∧ s.sf.sticky ||| t.sf.sticky = t.sf.sticky ∧ t.sf.supply = s.sf.supply ∧ t.sf.activity = s.sf.activity
      ∧ t.sf.haltPending = s.sf.haltPending ∧ t.powered = s.powered ∧ t.lc.enable = s.lc.enable
      ∧ t.timers.burst = s.timers.burst ∧ t.timers.store = s.timers.store

/-- Every page and every frame has the length its rule gives, and every page fits the 48 bytes of a reply, for a held
consignment ID of at most 16 bytes and a fault datum of 8 (R20, R121, R122, R145, R152 to R154, R167, R183). The LEG
page is the record behind its place, or the place alone; an OPEN page the record behind its flag, or the flag alone; the
PROFILE page 31 bytes and the ID; an empty PEERS slot its flag byte. -/
def Obligations.PageLengths : Prop :=
  (∀ c : Certificate, c.pageA.length = 43 ∧ c.pageB.length = 42)
  ∧ (∀ l : Leg, l.bytes.length = 38) ∧ (∀ e : Episode, e.bytes.length = 34)
  ∧ (∀ r : IntervalRecord, r.bytes.length = 26)
  ∧ (∀ p : Peer, (slotBytes (some p)).length = 27) ∧ (slotBytes none).length = 1
  ∧ (∀ s : State, (statusPage0 s).length = 37 ∧ (statusPage1 s).length = 36 ∧ (statusPage2 s).length = 35
      ∧ (overflowPage s).length = 11)
  ∧ (∀ (s : State) (index : Nat) (page : List Byte), legPage index s = some page →
      page.length = if (legPlace index s).leg? = none then 1 else 39)
  ∧ (∀ (s : State) (page : List Byte),
      (openPage 0 s = some page → page.length = if s.es.openExcursion = none then 1 else 35)
      ∧ (openPage 1 s = some page → page.length = if s.es.openGap = none then 1 else 35)
      ∧ (openPage 2 s = some page → page.length = if s.es.openCover = none then 1 else 35)
      ∧ (openPage 3 s = some page → page.length = if s.es.openLeg = none then 1 else 39))
  ∧ (∀ s : State, (∀ c, s.sf.context = some c → c.datum.length = 8) → (faultsPage s).length = 19)
  ∧ (∀ p : Profile, p.bytes.length = 30) ∧ (∀ r : ProfileRecord, r.bytes.length = 31 + r.consignment.length)
  ∧ (∀ b : BeaconFrame, (beaconBytes b).length = 20)
  ∧ (∀ (kind : Byte) (f : CommandFrame), (commandBytes kind f).length = 13 + f.payload.length)
  ∧ (∀ (r : Reply) (s : State), (replyFrame r s).length = 15 + r.payload.length)
  ∧ (∀ r : BurstResult, (liveAnswer r).length = 13) ∧ (∀ l : Leg, (legAnswer l).length = 12)
  ∧ ∀ (s : State) (index : Nat) (page : List Byte),
      (∀ r, s.cu.commissioned = some r → r.consignment.length ≤ 16) →
      (∀ c, s.sf.context = some c → c.datum.length = 8) →
      (page = (certificateNow s).pageA ∨ page = (certificateNow s).pageB ∨ page = profilePage s
        ∨ legPage index s = some page ∨ episodePage index s = some page ∨ openPage index s = some page
        ∨ page = overflowPage s ∨ historyPage index s = some page ∨ peersPage index s = some page
        ∨ page = faultsPage s ∨ statusPage index s = some page) →
      page.length ≤ 48

/-- A LIVE (R157, R114, R23, R24): in CLOSED it is answered CLOSED; with the converter idle it starts a SPOT burst at
once and becomes the in-flight record; behind a burst in flight SPOT pends and it becomes the waiting record, and a
record that waited there gives way, counted and noted as a dropped reply. An abort of the burst in flight (R29, R30,
R114) ends it without a result and empties the pending set; when it or a pending trigger served SPOT the LIVE that waits
is answered ABORTED, the waiting record before the in-flight one, and an in-flight record left behind counts as a
dropped reply (the model's reading, log 14). -/
def Obligations.LiveTaken : Prop :=
  (∀ (f : CommandFrame) (busy : Bool) (s : State), s.Takes .live f →
    let pends (u : State) (counters : LinkCounters) : State :=
      { u with
        mc := { s.mc with triggers := { s.mc.triggers with spot := true } }
        lc := { u.lc with liveWaiting := some (askerOf f), counters := counters } }
    (s.cu.custody = .closed →
      exec (.live f busy) s = .next (placeReply ⟨askerOf f, .closed, 0, []⟩ busy s.taken))
    ∧ (s.cu.custody ≠ .closed → s.sf.activity = .running → s.sf.haltPending = false → s.mc.burst = .idle →
        s.mc.triggers = ⟨false, false, false⟩ → s.lc.liveWaiting = none →
        exec (.live f busy) s = .next
          { s.taken with
            mc := { s.mc with burst := .settling ⟨⟨s.tb.interval, s.tb.phase⟩, ⟨false, false, true⟩,
              decide (s.cu.custody = .precool ∨ s.cu.custody = .chilled ∨ s.cu.custody = .excursion
                ∨ s.cu.custody = .broken), (s.cu.commissioned.map (·.profile.airUse)).getD false⟩ }
            lc := { s.taken.lc with liveInFlight := some (askerOf f) }
            timers := { s.timers with burst := 8 } })
    ∧ (s.cu.custody ≠ .closed → s.sf.activity = .running → s.sf.haltPending = false → s.mc.burst ≠ .idle →
        (s.lc.liveWaiting = none → exec (.live f busy) s = .next (pends s.taken s.taken.lc.counters))
        ∧ ∀ old, s.lc.liveWaiting = some old →
            exec (.live f busy) s = .next (noteNow .replyDropped (1 :: serialBytes old.reader)
              (pends s.taken { s.taken.lc.counters with repliesDropped := bump s.lc.counters.repliesDropped }))))
  ∧ (∀ (busy : Bool) (s : State) (fl : Flight), s.mc.burst.flight = some fl →
    let idle : State := { s with mc := { s.mc with burst := .idle, triggers := ⟨false, false, false⟩ } }
    let gone : State := { idle with lc := { s.lc with liveInFlight := none, liveWaiting := none } }
    let aborted (w : Asker) : State := placeReply ⟨w, .aborted, 0, []⟩ busy gone
    (fl.sources.spot = false → s.mc.triggers.spot = false → abortBurst busy s = idle)
    ∧ (fl.sources.spot = true ∨ s.mc.triggers.spot = true →
        (∀ w, s.lc.liveWaiting = some w → s.lc.liveInFlight = none → abortBurst busy s = aborted w)
        ∧ (∀ v, s.lc.liveWaiting = none → s.lc.liveInFlight = some v → abortBurst busy s = aborted v)
        ∧ (∀ v w, s.lc.liveWaiting = some w → s.lc.liveInFlight = some v →
            abortBurst busy s = noteNow .replyDropped (1 :: serialBytes v.reader)
              { aborted w with lc := { (aborted w).lc with counters := { (aborted w).lc.counters with
                  repliesDropped := bump (aborted w).lc.counters.repliesDropped } } })))
  ∧ ∀ (busy : Bool) (s : State), s.mc.burst = .idle → abortBurst busy s = s

/-- CLOSE (R13, R14, R146, R158). Accepted, it aborts the burst in flight, runs a deferred close, closes the current
interval as a partial interval, and enters CLOSING. With no burst in flight and no close deferred, the open episodes and
the leg, as the partial close leaves them, end at that interval and stand first among the closing records, behind them
the final checkpoint and the certificate; the table is cleared, the beacon slot emptied, no accumulator stays, and the
command is held. In SENDING it is accepted unless the part's own frame is still on the air (a free value, log 51), and
the transmission then goes on as it was, while a beacon request waiting behind it goes without being counted (R13, R112,
R118). In CLOSED it answers OK with certificate page A, and in BLANK NOT_COMMISSIONED. -/
def Obligations.CloseTaken : Prop :=
  (∀ (f : CommandFrame) (busy : Bool) (s : State), s.Takes .close f → s.cu.custody.inService = true →
    exec (.close f busy) s =
      .next (enterClosing (askerOf f) busy (partialCloseNow (runDeferred (abortBurst busy s.taken)))))
  ∧ (∀ (f : CommandFrame) (busy : Bool) (s : State) (acc : Accumulator), s.Takes .close f →
    s.cu.custody.inService = true → s.mc.burst = .idle → s.ie.old = none → s.ie.cur = some acc →
    ∃ u t, exec (.close f busy) s = .next t
      ∧ u = closeInterval true acc s.taken
      ∧ t.cu = { u.cu with
          custody := .closing
          closing := (u.es.openExcursion.map (fun e => ClosingItem.episode (e.closeAt s.tb.interval))).toList
            ++ (u.es.openGap.map (fun e => ClosingItem.episode (e.closeAt s.tb.interval))).toList
            ++ (u.es.openCover.map (fun e => ClosingItem.episode (e.closeAt s.tb.interval))).toList
            ++ (u.es.openLeg.map (fun l => ClosingItem.leg { l with finish := some s.tb.interval })).toList
            ++ [.checkpoint, .certificate]
          held := some (askerOf f) }
      ∧ t.es = { u.es with openExcursion := none, openGap := none, openCover := none, openLeg := none }
      ∧ t.ie = { u.ie with cur := none } ∧ t.nt = List.replicate 24 none ∧ t.lc.beaconSlot = none
      ∧ t.mc = s.mc ∧ t.tb = s.tb ∧ t.nv = u.nv)
  ∧ (∀ (f : CommandFrame) (busy : Bool) (s : State) (a : OnAir), s.powered = true → s.lc.enable = true →
    s.lc.tx = .sending → s.lc.onAir = some a → f.target = s.info.serial → f.length = 0 → f.payload = [] →
    s.cu.custody.inService = true →
    let t := enterClosing (askerOf f) busy (partialCloseNow (runDeferred (abortBurst busy s.taken)))
    exec (.close f busy) s =
      .next (if Config.freeOnAir a.frame ⟨s.tb.interval, s.tb.phase⟩ s.timers.tx then s else t)
    ∧ t.cu.custody = .closing ∧ t.lc.tx = .sending ∧ t.lc.served = s.lc.served ∧ t.lc.onAir = some a
    ∧ t.timers.tx = s.timers.tx ∧ t.lc.beaconSlot = none ∧ t.lc.sequence = s.lc.sequence
    ∧ t.lc.counters.beaconsDropped = s.lc.counters.beaconsDropped
    ∧ t.lc.counters.beaconsSent = s.lc.counters.beaconsSent)
  ∧ (∀ (f : CommandFrame) (busy : Bool) (s : State), s.Takes .close f →
    (s.cu.custody = .closed →
      exec (.close f busy) s = .next (placeReply ⟨askerOf f, .ok, 1, (certificateNow s).pageA⟩ busy s.taken))
    ∧ (s.cu.custody = .blank →
        exec (.close f busy) s = .next (placeReply ⟨askerOf f, .notCommissioned, 0, []⟩ busy s.taken)))

/-- Whatever was under way, an accepted CLOSE leaves no burst, no trigger, no LIVE record, no accumulator, no open
record, no neighbour and no waiting beacon (R13, R29, R30). -/
def Obligations.CloseLeavesNothingOpen : Prop :=
  ∀ (f : CommandFrame) (busy : Bool) (s t : State), s.ConverterSound → s.Takes .close f →
    s.cu.custody.inService = true → exec (.close f busy) s = .next t →
    t.cu.custody = .closing ∧ t.mc.burst = .idle ∧ t.mc.triggers = ⟨false, false, false⟩ ∧ t.mc.last = s.mc.last
      ∧ t.lc.liveInFlight = none ∧ t.lc.liveWaiting = none ∧ t.ie.cur = none ∧ t.ie.old = none
      ∧ t.es.openExcursion = none ∧ t.es.openGap = none ∧ t.es.openCover = none ∧ t.es.openLeg = none
      ∧ t.nt = List.replicate 24 none ∧ t.lc.beaconSlot = none ∧ t.tb = s.tb

/-- ERASE (R17, R143, R146, R159): taken in CLOSED it sets the marker, enters ERASING for 400 ms and holds the
command; its completion empties every area, clears the marker and gives every block its BLANK values before the held
OK is placed. The phase, the supply, the activity and the reply slot keep theirs, and so do the compare value and
period (the model's choice, log 11). In BLANK an ERASE answers OK and in PRECOOL to BROKEN NOT_CLOSED. -/
def Obligations.EraseRuns : Prop :=
  (∀ (f : CommandFrame) (busy : Bool) (s : State), s.Takes .erase f → s.cu.custody = .closed →
    exec (.erase f busy) s = .next
      { s.taken with
        cu := { s.cu with custody := .erasing }
        es := { s.es with state := .erasing, held := some (askerOf f) }
        nv := { s.nv with eraseMarker := true }
        timers := { s.timers with store := 1600 } })
  ∧ (∀ (busy : Bool) (s : State) (who : Asker), s.powered = true → s.cu.custody = .erasing → s.es.held = some who →
      s.lc.beaconSlot = none → (s.lc.tx = .backoff → s.lc.served ≠ some .beacon) →
      ∃ u, exec (.eraseComplete busy) s = .next (placeReply ⟨who, .ok, 0, []⟩ busy u)
        ∧ u.cu = ⟨.blank, ⟨false, false, false, false, false, false⟩, none, none, none, none, [], none⟩
        ∧ u.mc = ⟨.idle, ⟨false, false, false⟩, none⟩
        ∧ u.tb.interval = 0 ∧ u.tb.fastUntil = 0 ∧ u.tb.riseRef = none ∧ u.tb.riseBuffer = none
        ∧ u.tb.alertInterval = none ∧ u.tb.mode = (if s.sf.supply = .good then .steady else .lean)
        ∧ u.tb.phase = s.tb.phase ∧ u.tb.compare = s.tb.compare ∧ u.tb.period = s.tb.period
        ∧ u.ie = ⟨none, none, ⟨0, 0⟩, 0, false, none, 0, ⟨0, 0, 0, 0, 0, 0, 0⟩, 0, [], none⟩
        ∧ u.nt = List.replicate 24 none
        ∧ u.lc = { s.lc with
            content := none, sequence := 0, liveInFlight := none, liveWaiting := none
            counters := ⟨0, 0, 0, 0, 0, 0, 0, 0, 0, 0⟩ }
        ∧ u.es = ⟨.idle, [], 0, none, none, none, none, 0, ⟨0, 0, 0, 0⟩, 0, 0, false, false, none⟩
        ∧ u.nv = ⟨none, List.replicate 96 none, List.replicate 16 none, List.replicate 8 none, none, false⟩
        ∧ u.sf = { s.sf with sticky := 0, context := none, multiple := false, unread := 0 })
  ∧ (∀ (f : CommandFrame) (busy : Bool) (s : State), s.Takes .erase f →
    (s.cu.custody = .blank → exec (.erase f busy) s = .next (placeReply ⟨askerOf f, .ok, 0, []⟩ busy s.taken))
    ∧ (s.cu.custody.inService = true →
        exec (.erase f busy) s = .next (placeReply ⟨askerOf f, .notClosed, 0, []⟩ busy s.taken)))

/-! ## The neighbour table -/

/-- A beacon from a sender that the table holds updates that entry in place (R92): its arrival becomes the previous
arrival, every field of R90 takes the beacon's content, and the age becomes 0. A beacon from a sender that the table
does not hold fills the lowest-numbered empty slot (R93), with age 0 and no previous arrival. The fields are R90's: the
serial, the compartment code and the leg number as sent; the coverage, an unknown code kept as NONE; the figures signed
and clamped into -4000..8500 with coverage OWN, AIR or WITNESS, and absent with GAP or NONE; the verdict as received;
the four flags; the link quality; and the moment of arrival. But for an alert that acts and two link counters, nothing
else changes. -/
def Obligations.BeaconEntered : Prop :=
  ∀ (b : BeaconFrame) (quality : Byte) (s : State) (k : Nat), s.Receives → s.cu.custody.takesBeacons = true →
    let clamp (x : Int) : Int := max (-4000) (min 8500 x)
    let coverage : Coverage := match b.coverage.toNat with
      | 1 => .own
      | 2 => .air
      | 3 => .witness
      | 4 => .gap
      | _ => .none
    let entry (previous : Option Capture) : Peer :=
      { serial := b.sender, compartment := b.compartment.toNat, leg := b.leg.toNat, coverage := coverage
        figures := if coverage = .gap ∨ coverage = .none then none else some ⟨clamp b.tmax.toInt, clamp b.tmin.toInt⟩
        verdict := b.verdict, alert := b.flags.getLsbD 0, raised := b.flags.getLsbD 1
        sensorFault := b.flags.getLsbD 2, lean := b.flags.getLsbD 3, quality := quality.toNat
        arrival := ⟨s.tb.interval, s.tb.phase⟩, previous := previous, age := 0 }
    let entered (previous : Option Capture) : State :=
      { s.beaconTaken with nt := s.nt.set k (some (entry previous)) }
    let acted (u : State) : State := if s.alertMatches b then extendFast (trigger .alert u) else u
    (∀ p, TableSound s.info.serial s.nt → s.nt[k]? = some (some p) → p.serial = b.sender →
      exec (.beacon b quality) s = .next (acted (entered (some p.arrival))))
    ∧ (b.sender ≠ s.info.serial → (∀ p, some p ∈ s.nt → p.serial ≠ b.sender) → s.nt[k]? = some none →
      (∀ j < k, s.nt[j]? ≠ some none) →
      exec (.beacon b quality) s = .next (acted (entered none)))

/-- A beacon from a new sender to a full table (R94, R95): the entry of the greatest age, then the lowest link
quality, then the highest serial gives way when an age is above 0; when every age is 0 the newcomer is refused, the
table stays as it was and PEER_OVERFLOW is noted with the newcomer's serial and link quality. -/
def Obligations.BeaconReplacesOldestOrIsRefused : Prop :=
  ∀ (b : BeaconFrame) (quality : Byte) (s : State), s.Receives → s.cu.custody.takesBeacons = true →
    TableSound s.info.serial s.nt → b.sender ≠ s.info.serial → (∀ p, some p ∈ s.nt → p.serial ≠ b.sender) →
    none ∉ s.nt →
    let acted (u : State) : State := if s.alertMatches b then extendFast (trigger .alert u) else u
    (∀ (k : Nat) (v : Peer), s.nt[k]? = some (some v) → 0 < v.age →
      (∀ p, some p ∈ s.nt → p.age < v.age ∨ (p.age = v.age ∧ (v.quality < p.quality
        ∨ (p.quality = v.quality ∧ p.serial.toNat ≤ v.serial.toNat)))) →
      exec (.beacon b quality) s = .next (acted
        { s.beaconTaken with nt := s.nt.set k (some (peerOf b quality ⟨s.tb.interval, s.tb.phase⟩ none)) }))
    ∧ ((∀ p, some p ∈ s.nt → p.age = 0) →
        exec (.beacon b quality) s = .next (acted
          (noteNow .peerOverflow (serialBytes b.sender ++ [quality]) s.beaconTaken)))

/-- A beacon that carries the part's own serial is discarded whole (R91): the table stays as it was, no alert acts,
and DUPLICATE_SERIAL is noted with the link quality and the compartment code. -/
def Obligations.OwnSerialIsDiscarded : Prop :=
  ∀ (b : BeaconFrame) (quality : Byte) (s : State), s.Receives → s.cu.custody.takesBeacons = true →
    b.sender = s.info.serial →
    exec (.beacon b quality) s = .next
      (noteNow .duplicateSerial (quality :: beBytes 2 b.compartment.toNat) s.beaconTaken)

/-- An alert heard in the own compartment (R96, R23, R53): with the converter idle an ALERT burst starts at once, and
in flight it pends; while the supply is GOOD fast-until becomes at least the interval number plus 10 and the mode is
selected afresh, STEADY at interval number 16,777,215 (the model's choice there, log 50); while the supply is LOW the
extension is refused and the trigger is still sent. -/
def Obligations.HeardAlertActs : Prop :=
  ∀ (b : BeaconFrame) (quality : Byte) (s t : State) (l : Leg), s.Receives → s.cu.custody.inService = true →
    b.sender ≠ s.info.serial → b.flags.getLsbD 0 = true → s.es.openLeg = some l →
    b.compartment.toNat = l.compartment → s.sf.activity = .running → s.sf.haltPending = false →
    exec (.beacon b quality) s = .next t →
    let extended := max s.tb.fastUntil (min 16777215 (s.tb.interval + 10))
    (s.mc.burst = .idle → s.mc.triggers = ⟨false, false, false⟩ →
      t.mc.burst = .settling ⟨⟨s.tb.interval, s.tb.phase⟩, ⟨false, true, false⟩, true,
        (s.cu.commissioned.map (·.profile.airUse)).getD false⟩)
    ∧ (s.mc.burst ≠ .idle → t.mc = { s.mc with triggers := { s.mc.triggers with alert := true } })
    ∧ (s.sf.supply = .good → t.tb.fastUntil = extended
        ∧ t.tb.mode = (if s.tb.interval < extended then .fast else .steady))
    ∧ (s.sf.supply ≠ .good → t.tb = s.tb)

/-- The witness that NT offers is a candidate of the greatest Tmax, and among those of the lowest serial; none is
offered exactly when there is no candidate (R100, R101, R103). -/
def Obligations.WitnessIsWarmestCandidate : Prop :=
  ∀ (n : Nat) (s : State) (l : Leg), s.es.openLeg = some l →
    let candidate (p : Peer) := some p ∈ s.nt ∧ p.age = 0 ∧ p.arrival.interval = n ∧ p.compartment = l.compartment
      ∧ p.coverage = .own ∧ p.raised = false ∧ 2 ≤ p.verdict.toNat ∧ p.verdict.toNat ≤ 5
      ∧ s.profile.qualityFloor ≤ p.quality
    let tmax (p : Peer) : Int := (p.figures.map (·.hi)).getD (-4000)
    (witnessFor n s = none ↔ ∀ p, ¬ candidate p)
    ∧ ∀ w, witnessFor n s = some w →
        candidate w ∧ ∀ p, candidate p → tmax p < tmax w ∨ (tmax p = tmax w ∧ w.serial.toNat ≤ p.serial.toNat)

/-! ## Measurement -/

/-- From a burst's codes to its temperatures and its notes (R31 to R38, R43). The reference code is the mean of the two
codes rounded half up. A channel is SHORT when some code is at most 40, else OPEN when some code is at least 4055, else
NOISY when its spread is above 64, each with the context of R33, and valid otherwise. The trimmed sum is the sum of the
two middle codes; the ratio is rounded to the nearest 1/4096, halves up, and lies in R35's range; the table is R36's,
and strictly between its ends each segment is interpolated and rounded half up; the table temperature lies in
−4000..8500, never rises with the ratio, is each breakpoint's temperature exactly, and is flagged exactly at the table's
ends; the trim is added before the clamp into the range. A burst whose reference fails notes REF_FAULT alone; any other
notes channel P's fault or range flag and then channel A's, when channel A was converted, each with R43's datum, and the
notes are taken in that order with the burst's start capture. -/
def Obligations.MeasuredTemperature : Prop :=
  (∀ r1 r2 : Nat, referenceCode r1 r2 = (r1 + r2 + 1) / 2)
  ∧ (∀ (codes : List Nat) (lo hi : Nat), lo ∈ codes → hi ∈ codes → (∀ c ∈ codes, lo ≤ c ∧ c ≤ hi ∧ c ≤ 4095) →
      ((∃ c ∈ codes, c ≤ 40) → channelCheck codes = some (.short lo))
      ∧ ((∀ c ∈ codes, 40 < c) → (∃ c ∈ codes, 4055 ≤ c) → channelCheck codes = some (.opened hi))
      ∧ ((∀ c ∈ codes, 40 < c ∧ c < 4055) → 64 < hi - lo → channelCheck codes = some (.noisy (hi - lo)))
      ∧ ((∀ c ∈ codes, 40 < c ∧ c < 4055) → hi - lo ≤ 64 → channelCheck codes = none))
  ∧ (∀ (a b c d : Nat) (codes : List Nat), a ≤ b → b ≤ c → c ≤ d → d ≤ 4095 → codes.Perm [a, b, c, d] →
    trimmedSum codes = b + c)
  ∧ (∀ m rref : Nat, 0 < rref → 2 * rref * normalisedRatio m rref ≤ 4096 * m + rref
      ∧ 4096 * m + rref < 2 * rref * (normalisedRatio m rref + 1))
  ∧ (∀ m rref : Nat, m ≤ 8190 → 1800 ≤ rref → rref ≤ 2300 → normalisedRatio m rref ≤ 9318)
  ∧ (∀ m rref : Nat, 82 ≤ m → m ≤ 8108 → 1800 ≤ rref → rref ≤ 2300 →
      73 ≤ normalisedRatio m rref ∧ normalisedRatio m rref ≤ 9225)
  ∧ conversionTable = [(-4000, 8900), (-2500, 8100), (-1000, 6900), (0, 5900), (1000, 4900), (2500, 3500),
      (4000, 2400), (6000, 1400), (8500, 700)]
  ∧ (∀ (k : Nat) (t1 t2 : Int) (q1 q2 q : Nat), conversionTable[k]? = some (t1, q1) →
      conversionTable[k + 1]? = some (t2, q2) → q2 < q → q ≤ q1 → q < 8900 →
      tableTemp q = (t1 + (((q1 : Int) - q) * (t2 - t1) + ((q1 : Int) - q2) / 2) / ((q1 : Int) - q2), none))
  ∧ (∀ q : Nat, (8900 ≤ q → tableTemp q = (-4000, some .low)) ∧ (q ≤ 700 → tableTemp q = (8500, some .high)))
  ∧ (∀ q : Nat, -4000 ≤ (tableTemp q).1 ∧ (tableTemp q).1 ≤ 8500)
  ∧ (∀ q q' : Nat, q ≤ q' → (tableTemp q').1 ≤ (tableTemp q).1)
  ∧ (∀ x ∈ conversionTable, (tableTemp x.2).1 = x.1)
  ∧ (∀ q : Nat, ((tableTemp q).2 = some .low ↔ 8900 ≤ q) ∧ ((tableTemp q).2 = some .high ↔ q ≤ 700))
  ∧ (∀ ttab trim : Int, trimmedTemp ttab trim = max (-4000) (min 8500 (ttab + trim))
      ∧ -4000 ≤ trimmedTemp ttab trim ∧ trimmedTemp ttab trim ≤ 8500)
  ∧ (∀ (info : Info) (fl : Flight) (r1 r2 : Nat) (p a : List Nat), p.length = 4 →
      a.length = (if fl.air then 4 else 0) →
      let result := formResult info fl ([r1] ++ p ++ a ++ [r2])
      let passes := 1800 ≤ r1 ∧ r1 ≤ 2300 ∧ 1800 ≤ r2 ∧ r2 ≤ 2300 ∧ r1 ≤ r2 + 16 ∧ r2 ≤ r1 + 16
      let ratio (codes : List Nat) := normalisedRatio (trimmedSum codes) ((r1 + r2 + 1) / 2)
      let reads (first : Bool) (codes : List Nat) (trim : Int) (outcome : Outcome) (range : Option RangeFlag)
          (notes : List SensorNote) : Prop :=
        match channelCheck codes with
        | some (.short c) => outcome = .short ∧ range = none
            ∧ notes = [⟨if first then .pShort else .aShort, beBytes 2 c⟩]
        | some (.opened c) => outcome = .opened ∧ range = none
            ∧ notes = [⟨if first then .pOpen else .aOpen, beBytes 2 c⟩]
        | some (.noisy d) => outcome = .noisy ∧ range = none
            ∧ notes = [⟨if first then .pNoisy else .aNoisy, beBytes 2 d⟩]
        | none => outcome = .temp (trimmedTemp (tableTemp (ratio codes)).1 trim) ∧ range = (tableTemp (ratio codes)).2
            ∧ (range = none → notes = [])
            ∧ (range = some .low → notes = [⟨.rangeLow, (if first then 0 else 1) :: beBytes 2 (ratio codes)⟩])
            ∧ (range = some .high → notes = [⟨.rangeHigh, (if first then 0 else 1) :: beBytes 2 (ratio codes)⟩])
      (¬ passes → result.1.p = .ref ∧ result.1.a = (if fl.air then some .ref else none) ∧ result.1.pRange = none
        ∧ result.1.aRange = none ∧ result.2 = [⟨.refFault, beBytes 2 r1 ++ beBytes 2 r2⟩])
      ∧ (passes → ∃ notesP notesA, result.2 = notesP ++ notesA
        ∧ reads true p info.pTrim result.1.p result.1.pRange notesP
        ∧ (fl.air = true → ∃ outcome, result.1.a = some outcome
            ∧ reads false a info.aTrim outcome result.1.aRange notesA)
        ∧ (fl.air = false → result.1.a = none ∧ result.1.aRange = none ∧ notesA = [])))
  ∧ (∀ (at_ : Capture) (x : SensorNote) (rest : List SensorNote) (s : State), noteAll at_ [] s = s
      ∧ noteAll at_ (x :: rest) s = noteAll at_ rest (note x.code at_ x.datum s))

/-- A burst (R25, R26, R40 to R43, R64, R65, R157). Settling gives way to the first conversion; a conversion that is not
the last adds its code and the next begins, with six conversions in a burst without channel A and ten with it; nothing
else changes. At the last the codes form the result, its notes are taken with the start capture, and it becomes the last
result. With its credit it is folded into the accumulator of its start interval, a close deferred behind it then runs,
and the rise detector takes it; when it served SPOT the LIVE in flight is answered OK with it, after the rise detector's
alert request has been served (the model's order where both arise and the transmitter is IDLE, log 44); and the
converter is idle, or the pending triggers start the next burst. A fold counts the burst, adds its sources and widens
the extremes of each channel that gave a temperature, the counts stopping at 15. The result is REF when a reference code
is outside 1800..2300 or the two differ by more than 16, and only then. -/
def Obligations.BurstRuns : Prop :=
  ((∀ (s : State) (fl : Flight), s.powered = true → s.mc.burst = .settling fl →
    exec .settlingEnd s = .next
      { s with mc := { s.mc with burst := .converting fl [] }, timers := { s.timers with burst := 1 } })
  ∧ ∀ (s : State) (fl : Flight) (codes : List Code) (code : Code) (busy : Bool), s.powered = true →
      s.mc.burst = .converting fl codes → codes.length + 1 < (if fl.air then 10 else 6) →
      exec (.conversionEnd code busy) s = .next
        { s with
          mc := { s.mc with burst := .converting fl (codes ++ [code]) }, timers := { s.timers with burst := 1 } })
  ∧ (∀ (s : State) (fl : Flight) (codes : List Code) (code : Code) (busy : Bool), s.powered = true →
    s.mc.burst = .converting fl codes → codes.length + 1 = (if fl.air then 10 else 6) →
    let all := (codes ++ [code]).map BitVec.toNat
    let result := formResult s.info fl all
    let noted : State := { noteAll fl.start result.2 s with mc := { s.mc with last := some result.1 } }
    let fold (acc : Accumulator) := if acc.interval = fl.start.interval then foldResult result.1 acc else acc
    let folded : State := { noted with ie := { s.ie with old := s.ie.old.map fold, cur := s.ie.cur.map fold } }
    let released : State := match folded.ie.old with
      | some acc =>
        if acc.interval = fl.start.interval then
          { closeInterval false acc folded with ie := { (closeInterval false acc folded).ie with old := none } }
        else folded
      | none => folded
    let credited := if fl.credit then riseDetect busy result.1 released else noted
    (fl.sources.spot = false → s.mc.triggers = ⟨false, false, false⟩ →
      exec (.conversionEnd code busy) s = .next
        { credited with mc := ⟨.idle, ⟨false, false, false⟩, some result.1⟩ })
    ∧ (∀ who, fl.sources.spot = true → s.mc.triggers = ⟨false, false, false⟩ → s.lc.liveInFlight = some who →
        exec (.conversionEnd code busy) s = .next
          { placeReply ⟨who, .ok, 0, liveAnswer result.1⟩ busy
              { credited with lc := { credited.lc with liveInFlight := none } } with
            mc := ⟨.idle, ⟨false, false, false⟩, some result.1⟩ })
    ∧ (∃ t, exec (.conversionEnd code busy) s = .next t ∧ t.mc.last = some result.1
        ∧ (s.mc.triggers.nonempty = false → t.mc.burst = .idle)
        ∧ (s.mc.triggers.nonempty = true →
            ∃ fl', t.mc.burst = .settling fl' ∧ fl'.sources = s.mc.triggers
              ∧ fl'.start = ⟨s.tb.interval, s.tb.phase⟩ ∧ t.mc.triggers = ⟨false, false, false⟩))
    ∧ result.1.start = fl.start ∧ result.1.sources = fl.sources ∧ result.1.credit = fl.credit
    ∧ (result.1.a.isSome = fl.air)
    ∧ (result.1.p = .ref ↔
        ¬ (1800 ≤ (codes.headD code).toNat ∧ (codes.headD code).toNat ≤ 2300 ∧ 1800 ≤ code.toNat ∧ code.toNat ≤ 2300
          ∧ (codes.headD code).toNat ≤ code.toNat + 16 ∧ code.toNat ≤ (codes.headD code).toNat + 16)))
  ∧ ∀ (r : BurstResult) (acc : Accumulator),
      let u := foldResult r acc
      let widened (old : Option Figures) (t : Int) : Figures :=
        match old with | some x => ⟨max x.hi t, min x.lo t⟩ | none => ⟨t, t⟩
      u.interval = acc.interval ∧ u.bursts = min 15 (acc.bursts + 1)
        ∧ u.sources = ⟨acc.sources.schedule || r.sources.schedule, acc.sources.alert || r.sources.alert,
            acc.sources.spot || r.sources.spot⟩
        ∧ (∀ t, r.p = .temp t → u.p = some (widened acc.p t) ∧ u.pCount = min 15 (acc.pCount + 1))
        ∧ ((∀ t, r.p ≠ .temp t) → u.p = acc.p ∧ u.pCount = acc.pCount)
        ∧ (∀ t, r.a = some (.temp t) → u.a = some (widened acc.a t) ∧ u.aCount = min 15 (acc.aCount + 1))
        ∧ ((∀ t, r.a ≠ some (.temp t)) → u.a = acc.a ∧ u.aCount = acc.aCount)

/-- The rise detector (R55 to R57): without a valid P temperature it keeps everything; without a reference the result
becomes it; within five seconds of the reference nothing changes; and from five seconds on the reference moves into
the buffer, the result becomes the reference, and a rate at or above the threshold extends fast-until while the supply
is GOOD and marks the interval's alert. Where the interval had no alert yet an alert beacon is requested: it waits in
its slot behind a transmitter at work, a request that waited there is dropped, counted and noted, an idle transmitter
with an idle channel sends it at once, and with the transceiver off nothing is requested (R107, R112). -/
def Obligations.RiseDetected : Prop :=
  ∀ (r : BurstResult) (busy : Bool) (s : State),
    (r.p.temp? = none → riseDetect busy r s = s)
    ∧ (∀ temp, r.p = .temp temp → s.tb.riseRef = none →
        riseDetect busy r s = { s with tb := { s.tb with riseRef := some ⟨r.start, temp⟩ } })
    ∧ (∀ temp ref, r.p = .temp temp → s.tb.riseRef = some ref →
        let dt : Int := 60000 * ((r.start.interval : Int) - ref.at_.interval) + r.start.phase - ref.at_.phase
        let rate : Int := Int.tdiv ((temp - ref.temp) * 60000) dt
        let t := riseDetect busy r s
        let request : BeaconRequest := ⟨.alert, ⟨s.tb.interval, s.tb.phase⟩⟩
        (dt < 5000 → t = s)
        ∧ (5000 ≤ dt → rate < s.profile.riseThreshold →
            t = { s with tb := { s.tb with riseBuffer := some ref, riseRef := some ⟨r.start, temp⟩ } })
        ∧ (5000 ≤ dt → s.profile.riseThreshold ≤ rate →
            t.tb.riseBuffer = some ref ∧ t.tb.riseRef = some ⟨r.start, temp⟩
              ∧ t.tb.alertInterval = some r.start.interval
              ∧ t.tb.fastUntil = (if s.sf.supply = .good then
                  max s.tb.fastUntil (min 16777215 (s.tb.interval + 10)) else s.tb.fastUntil)
              ∧ (s.tb.alertInterval = some r.start.interval → t.lc = s.lc ∧ t.sf = s.sf)
              ∧ (s.tb.alertInterval ≠ some r.start.interval →
                  (s.lc.enable = false → t.lc = s.lc ∧ t.sf = s.sf)
                  ∧ (s.lc.enable = true → s.lc.tx ≠ .idle → s.lc.beaconSlot = none →
                      t.lc = { s.lc with beaconSlot := some request } ∧ t.sf = s.sf)
                  ∧ (∀ old, s.lc.enable = true → s.lc.tx ≠ .idle → s.lc.beaconSlot = some old →
                      t.lc = { s.lc with
                          beaconSlot := some request
                          attempts := if s.lc.tx = .backoff ∧ s.lc.served = some .beacon then 0 else s.lc.attempts
                          counters := { s.lc.counters with beaconsDropped := bump s.lc.counters.beaconsDropped } }
                        ∧ t.sf = (noteNow .beaconDropped [1, if old.kind = .scheduled then 1 else 2] s).sf)
                  ∧ (s.lc.enable = true → s.lc.tx = .idle → s.lc.beaconSlot = none → s.lc.replySlot = none →
                      busy = false →
                      t.lc = { s.lc with
                          tx := .sending, served := some .beacon, attempts := 0
                          sequence := (s.lc.sequence + 1) % 256
                          onAir := some ⟨.beacon, beaconFrame .alert s⟩ }
                        ∧ t.timers = { s.timers with tx := 80 } ∧ t.sf = s.sf))))

/-! ## Time -/

/-- An interval boundary in service with no close deferred (R45, R46, R58, R63, R65, R66): the interval number rises,
the mode is selected for it, the compare is loaded at 0 with its period, the beacon offset is the new interval's, a
new accumulator opens, and the close of the interval before runs at once, or waits when a credited burst of it is in
flight. -/
def Obligations.BoundaryPassedToClose : Prop :=
  ∀ (s : State) (acc : Accumulator), s.powered = true → s.cu.custody.inService = true → s.tb.interval < 16777215 →
    s.ie.old = none → s.ie.cur = some acc →
    let n := s.tb.interval + 1
    let mode : Mode :=
      if s.sf.supply = .good then (if n < s.tb.fastUntil then .fast else .steady) else .lean
    let u : State :=
      { s with
        tb := { s.tb with
          interval := n, phase := 0, quarter := 0, mode := mode, compare := some 0, period := mode.period
          buffer := mode.period, beaconOffset := beaconOffsetOf s.info.serial n }
        ie := { s.ie with old := some acc, cur := some ⟨n, none, 0, none, 0, 0, ⟨false, false, false⟩⟩ } }
    (s.creditedInFlight acc.interval = true → exec .intervalBoundary s = .next u)
    ∧ (s.creditedInFlight acc.interval = false →
        exec .intervalBoundary s = .next
          { closeInterval false acc u with ie := { (closeInterval false acc u).ie with old := none } })

/-- An interval boundary that closes nothing (R45, R47): in BLANK and COMMISSIONING the interval number is held, in
CLOSING, CLOSED and ERASING it rises, and at 16,777,215 it stays; the phase becomes 0 and the mode, the compare and
the beacon offset are set for the interval. Nothing else changes. -/
def Obligations.BoundaryWithoutClose : Prop :=
  ∀ s : State, s.powered = true → (s.cu.custody.inService = false ∨ s.tb.interval = 16777215) →
    s.tb.interval ≤ 16777215 →
    let n := if s.cu.custody = .blank ∨ s.cu.custody = .commissioning then s.tb.interval
      else min 16777215 (s.tb.interval + 1)
    let mode : Mode :=
      if s.sf.supply = .good then (if n < s.tb.fastUntil then .fast else .steady) else .lean
    exec .intervalBoundary s = .next
      { s with tb := { s.tb with
          interval := n, phase := 0, quarter := 0, mode := mode, compare := some 0, period := mode.period
          buffer := mode.period, beaconOffset := beaconOffsetOf s.info.serial n } }

/-- A compare match, the phase having reached the compare value (R50, R23, R52): in service and RUNNING a SCHEDULE
trigger reaches the converter, in any other state or activity none, and with the halt pending the converter discards
it; the compare value advances by the period in force, and is none when that reaches 60,000; and then the buffer
becomes the period. -/
def Obligations.CompareMatchAdvances : Prop :=
  ∀ (s : State) (c : Nat), s.powered = true → s.tb.compare = some c → c ≤ s.tb.phase →
    let advanced (u : State) : State := { u with tb := { u.tb with
      compare := if 60000 ≤ c + s.tb.period then none else some (c + s.tb.period), period := s.tb.buffer } }
    (s.cu.custody.inService = false ∨ s.sf.activity = .halted ∨ s.sf.haltPending = true →
      exec .compareMatch s = .next (advanced s))
    ∧ (s.cu.custody.inService = true → s.sf.activity = .running → s.sf.haltPending = false → s.mc.burst ≠ .idle →
        exec .compareMatch s = .next
          (advanced { s with mc := { s.mc with triggers := { s.mc.triggers with schedule := true } } }))
    ∧ (s.cu.custody.inService = true → s.sf.activity = .running → s.sf.haltPending = false → s.mc.burst = .idle →
        s.mc.triggers = ⟨false, false, false⟩ →
        exec .compareMatch s = .next
          (advanced { s with
            mc := { s.mc with burst := .settling ⟨⟨s.tb.interval, s.tb.phase⟩, ⟨true, false, false⟩, true,
              (s.cu.commissioned.map (·.profile.airUse)).getD false⟩ }
            timers := { s.timers with burst := 8 } }))

/-- The beacon-due event (R59, R112): with the supply GOOD, or LOW in an even interval, a RUNNING part in service puts
a scheduled request into the beacon slot, dropping one that waits there; otherwise nothing is requested. An idle
transmitter with an idle channel sends the beacon at once with the sequence number counted on (R113, R118). Where the
command comes before the phase has reached the offset, the phase becomes the offset (the model's choice, log 4). -/
def Obligations.BeaconDueRequests : Prop :=
  ∀ (busy : Bool) (s : State), s.powered = true →
    let at_ : State :=
      if s.tb.phase < s.tb.beaconOffset then { s with tb := { s.tb with phase := s.tb.beaconOffset, quarter := 0 } }
      else s
    let due := s.cu.custody.inService = true ∧ s.sf.activity = .running
      ∧ (s.sf.supply = .good ∨ (s.sf.supply = .low ∧ s.tb.interval % 2 = 0))
    (¬ due → exec (.beaconDue busy) s = .next at_)
    ∧ (due → s.lc.enable = true → s.lc.tx ≠ .idle → s.lc.beaconSlot = none →
        exec (.beaconDue busy) s = .next
          { at_ with lc := { s.lc with beaconSlot := some ⟨.scheduled, ⟨s.tb.interval, at_.tb.phase⟩⟩ } })
    ∧ (∀ old, due → s.lc.enable = true → s.lc.tx ≠ .idle → s.lc.beaconSlot = some old →
        exec (.beaconDue busy) s = .next
          (noteNow .beaconDropped [1, if old.kind = .scheduled then 1 else 2]
            { at_ with lc := { s.lc with
                beaconSlot := some ⟨.scheduled, ⟨s.tb.interval, at_.tb.phase⟩⟩
                attempts := if s.lc.tx = .backoff ∧ s.lc.served = some .beacon then 0 else s.lc.attempts
                counters := { s.lc.counters with beaconsDropped := bump s.lc.counters.beaconsDropped } } }))
    ∧ (due → s.lc.enable = true → s.lc.tx = .idle → s.lc.beaconSlot = none → s.lc.replySlot = none → busy = false →
        exec (.beaconDue busy) s = .next
          { at_ with
            lc := { s.lc with
              tx := .sending, served := some .beacon, attempts := 0, sequence := (s.lc.sequence + 1) % 256
              onAir := some ⟨.beacon, beaconFrame .scheduled s⟩ }
            timers := { s.timers with tx := 80 } })

/-! ## The transmitter -/

/-- The end of a backoff (R113, R116 to R118), of a reply and of a beacon: an idle channel sends the served frame, a
beacon with the sequence number counted on; a busy one counts the sense and, below the fourth, steps the generator and
backs off 8 to 64 ms again; the fourth drops the frame, counts it and notes cause BUSY. What waits in the other slot
stays, and after a drop it is served at once, by a sense of its own; with nothing there the transmitter is idle, its
attempt count 0 (log 42). A beacon is assembled from the state as its transmission begins, with each field of R113: the
own serial, the open leg's codes, the content's interval, figures, coverage and verdict, the five flags, and the
sequence number before it is counted on. -/
def Obligations.BackoffEnds : Prop :=
  ∀ (busyNext : Bool) (s : State), s.powered = true → s.lc.tx = .backoff →
    let again : State :=
      { s with
        lc := { s.lc with
          attempts := s.lc.attempts + 1, generator := lfsrStep s.lc.generator
          counters := { s.lc.counters with busySenses := bump s.lc.counters.busySenses } }
        timers := { s.timers with tx := 4 * (((lfsrStep s.lc.generator).toNat % 8 + 1) * 8) } }
    (∀ placed, s.lc.served = some .reply → s.lc.replySlot = some placed →
      let gone : State := noteNow .replyDropped [2]
        { s with lc := { s.lc with
            tx := .idle, served := none, attempts := 0, replySlot := none, onAir := none
            counters := { s.lc.counters with
              busySenses := bump s.lc.counters.busySenses, repliesDropped := bump s.lc.counters.repliesDropped } } }
      exec (.backoffEnd false busyNext) s = .next
          { s with
            lc := { s.lc with tx := .sending, replySlot := none, onAir := some ⟨.reply, placed.frame⟩ }
            timers := { s.timers with tx := 80 } }
      ∧ (s.lc.attempts < 3 → exec (.backoffEnd true busyNext) s = .next again)
      ∧ (3 ≤ s.lc.attempts → exec (.backoffEnd true busyNext) s = .next (serve busyNext gone))
      ∧ (s.lc.beaconSlot = none → serve busyNext gone = gone)
      ∧ (∀ b, s.lc.beaconSlot = some b → busyNext = false → serve busyNext gone =
          { gone with
            lc := { gone.lc with
              tx := .sending, served := some .beacon, beaconSlot := none, onAir := some ⟨.beacon, beaconFrame b.kind s⟩
              sequence := (s.lc.sequence + 1) % 256 }
            timers := { s.timers with tx := 80 } }))
    ∧ (∀ request, s.lc.served = some .beacon → s.lc.beaconSlot = some request →
      let gone : State := noteNow .beaconDropped [2]
        { s with lc := { s.lc with
            tx := .idle, served := none, attempts := 0, beaconSlot := none, onAir := none
            counters := { s.lc.counters with
              busySenses := bump s.lc.counters.busySenses, beaconsDropped := bump s.lc.counters.beaconsDropped } } }
      exec (.backoffEnd false busyNext) s = .next
          { s with
            lc := { s.lc with
              tx := .sending, beaconSlot := none, onAir := some ⟨.beacon, beaconFrame request.kind s⟩
              sequence := (s.lc.sequence + 1) % 256 }
            timers := { s.timers with tx := 80 } }
      ∧ (s.lc.attempts < 3 → exec (.backoffEnd true busyNext) s = .next again)
      ∧ (3 ≤ s.lc.attempts → exec (.backoffEnd true busyNext) s = .next (serve busyNext gone))
      ∧ (s.lc.replySlot = none → serve busyNext gone = gone)
      ∧ (∀ r, s.lc.replySlot = some r → busyNext = false → serve busyNext gone =
          { gone with
            lc := { gone.lc with
              tx := .sending, served := some .reply, replySlot := none, onAir := some ⟨.reply, r.frame⟩ }
            timers := { s.timers with tx := 80 } }))
    ∧ (∀ (content : BeaconContent) (leg : Leg) (kind : BeaconKind), s.lc.content = some content →
      s.es.openLeg = some leg →
      let figures : Figures := match content.figures with | some f => f | none => ⟨0, 0⟩
      beaconFrame kind s = beaconBytes
        { sender := s.info.serial, compartment := BitVec.ofNat 16 leg.compartment, leg := BitVec.ofNat 8 leg.number
          interval := BitVec.ofNat 16 content.interval, tmax := BitVec.ofInt 16 figures.hi
          tmin := BitVec.ofInt 16 figures.lo
          coverage := match content.coverage with | .none => 0 | .own => 1 | .air => 2 | .witness => 3 | .gap => 4
          verdict := BitVec.ofNat 8 content.verdict.code
          flags := (if kind = .alert then 1 else 0) ||| (if content.raised then 2 else 0)
            ||| (if content.noValidP ∨ content.coverage = .none then 4 else 0)
            ||| (if s.sf.supply = .low then 8 else 0)
            ||| (if s.cu.causes = ⟨false, false, false, false, false, false⟩ then 0 else 16)
          seq := BitVec.ofNat 8 s.lc.sequence })

/-- The events that free the transmitter (R107, R115, R118): transmit-complete counts the beacon or the reply as sent,
20 ms without it drop the frame and note cause TIMEOUT, and the end of WAIT ends the wait; the transmitter is then idle,
its attempt count 0 (log 42), and serves its slots. With both empty it stays idle; of two frames that wait it serves the
one that became ready first, and of two that became ready together the reply; on an idle channel it sends that frame,
and on a busy one it counts the sense and backs off. None of the events changes anything outside its own state: R118
says so of transmit-complete, and of the 20 ms limit outside SENDING and the end of WAIT outside WAIT it is the model's
choice (log 3). A beacon sent has the fields of R113, taken from the state as its transmission begins, in the layout of
R121. -/
def Obligations.TransmitterFreed : Prop :=
  (∀ (s : State) (busy : Bool), s.powered = true →
    let idle (counters : LinkCounters) : State :=
      { s with lc := { s.lc with tx := .idle, served := none, attempts := 0, onAir := none, counters := counters } }
    let c := s.lc.counters
    (∀ frame, s.lc.tx = .sending → s.lc.onAir = some ⟨.beacon, frame⟩ →
      exec (.transmitComplete busy) s = .next (serve busy (idle { c with beaconsSent := bump c.beaconsSent }))
      ∧ exec (.transmitTimeout busy) s =
          .next (serve busy (noteNow .beaconDropped [3] (idle { c with beaconsDropped := bump c.beaconsDropped }))))
    ∧ (∀ frame, s.lc.tx = .sending → s.lc.onAir = some ⟨.reply, frame⟩ →
      exec (.transmitComplete busy) s = .next (serve busy (idle { c with repliesSent := bump c.repliesSent }))
      ∧ exec (.transmitTimeout busy) s =
          .next (serve busy (noteNow .replyDropped [3] (idle { c with repliesDropped := bump c.repliesDropped }))))
    ∧ (s.lc.tx = .wait → exec (.waitEnd busy) s = .next (serve busy (idle c)))
    ∧ (s.lc.tx ≠ .sending → exec (.transmitComplete busy) s = .next s ∧ exec (.transmitTimeout busy) s = .next s)
    ∧ (s.lc.tx ≠ .wait → exec (.waitEnd busy) s = .next s))
  ∧ (∀ s : State, s.lc.tx = .idle →
    let beaconFirst (b : BeaconRequest) (r : PlacedReply) : Prop := b.ready.interval < r.ready.interval
      ∨ (b.ready.interval = r.ready.interval ∧ b.ready.phase < r.ready.phase)
    let backsOff (slot : Slot) : State :=
      { s with
        lc := { s.lc with
          tx := .backoff, served := some slot, attempts := 1, generator := lfsrStep s.lc.generator
          counters := { s.lc.counters with busySenses := bump s.lc.counters.busySenses } }
        timers := { s.timers with tx := 4 * (((lfsrStep s.lc.generator).toNat % 8 + 1) * 8) } }
    (s.lc.beaconSlot = none → s.lc.replySlot = none → ∀ busy, serve busy s = s)
    ∧ (∀ r, s.lc.replySlot = some r → (∀ b, s.lc.beaconSlot = some b → ¬ beaconFirst b r) →
        serve false s =
          { s with
            lc := { s.lc with
              tx := .sending, served := some .reply, attempts := 0, replySlot := none
              onAir := some ⟨.reply, r.frame⟩ }
            timers := { s.timers with tx := 80 } }
        ∧ serve true s = backsOff .reply)
    ∧ (∀ b, s.lc.beaconSlot = some b → (∀ r, s.lc.replySlot = some r → beaconFirst b r) →
        serve false s =
          { s with
            lc := { s.lc with
              tx := .sending, served := some .beacon, attempts := 0, beaconSlot := none
              onAir := some ⟨.beacon, beaconFrame b.kind s⟩, sequence := (s.lc.sequence + 1) % 256 }
            timers := { s.timers with tx := 80 } }
        ∧ serve true s = backsOff .beacon))
  ∧ (∀ (s : State) (content : BeaconContent) (leg : Leg) (kind : BeaconKind), s.lc.content = some content →
      s.es.openLeg = some leg →
      let figures : Figures := match content.figures with | some f => f | none => ⟨0, 0⟩
      beaconFrame kind s = beaconBytes
        { sender := s.info.serial, compartment := BitVec.ofNat 16 leg.compartment, leg := BitVec.ofNat 8 leg.number
          interval := BitVec.ofNat 16 content.interval, tmax := BitVec.ofInt 16 figures.hi
          tmin := BitVec.ofInt 16 figures.lo
          coverage := match content.coverage with | .none => 0 | .own => 1 | .air => 2 | .witness => 3 | .gap => 4
          verdict := BitVec.ofNat 8 content.verdict.code
          flags := (if kind = .alert then 1 else 0) ||| (if content.raised then 2 else 0)
            ||| (if content.noValidP ∨ content.coverage = .none then 4 else 0)
            ||| (if s.sf.supply = .low then 8 else 0)
            ||| (if s.cu.causes = ⟨false, false, false, false, false, false⟩ then 0 else 16)
          seq := BitVec.ofNat 8 s.lc.sequence })
  ∧ (∀ b : BeaconFrame,
    let body : List Byte := [0x1B#8] ++ beBytes 4 b.sender.toNat ++ beBytes 2 b.compartment.toNat ++ [b.leg]
      ++ beBytes 2 b.interval.toNat ++ beBytes 2 b.tmax.toNat ++ beBytes 2 b.tmin.toNat
      ++ [b.coverage, b.verdict, b.flags, b.seq]
    beaconBytes b = body ++ beBytes 2 (crc16 body).toNat)

/-! ## The evidence store -/

/-- A record offered (R125 to R127, R133, R134, R140): a checkpoint merges with one that waits unstarted; with room
the record joins behind the others, and an idle store of a RUNNING part starts its write at once, a checkpoint taking
its content then, each field of R140 from its owner, and a CRC over all of them (over the bytes that log 16 leaves
free); at a full queue QUEUE_FULL is noted, an episode is folded, and anything else is dropped, a leg's slot staying as
it was (log 45). The slot that a checkpoint or a leg is written into is empty from the start of the write (the model's
reading, log 37). A CRITICAL checkpoint that waits for room goes before the record (R129; the model's order, log 24): it
merges with one that waits unstarted or takes a free place, and while the queue is full it goes on waiting and the
record is refused. A fold adds the episode to the overflow summary, whose totals stop at their bounds, and LOG_FULL is
noted once, at the first fold made with 96 episodes stored (a fold at a full queue among them: the model's reading,
log 12). -/
def Obligations.RecordOffered : Prop :=
  (∀ (r : QueueRecord) (s : State), s.es.criticalWaiting = false →
    let started (q : QueueRecord) (u : State) : State :=
      { u with es := { u.es with state := .writing, queue := [q] }, timers := { u.timers with store := 32 } }
    let content : CheckpointContent :=
      { interval := s.ie.lastClosed.getD 0
        sequence := s.es.sequence, custody := s.cu.custody, causes := s.cu.causes, breakInterval := s.cu.breakInterval
        custodyStart := s.cu.custodyStart, counts := s.ie.counts, gapRun := s.ie.gapRun, mark := s.ie.mark
        before := s.ie.before, consensusRun := s.ie.consensusRun, precoolCount := s.ie.precoolCount
        legCount := s.es.legCount, openLeg := s.es.openLeg, overflow := s.es.overflow, sticky := s.sf.sticky
        fastUntil := s.tb.fastUntil }
    (r = .checkpoint none → QueueRecord.checkpoint none ∈ s.es.queue → offer r s = s)
    ∧ ((r ≠ .checkpoint none ∨ QueueRecord.checkpoint none ∉ s.es.queue) →
        (s.es.queue.length < 4 → s.es.state ≠ .idle ∨ s.sf.activity = .halted →
          offer r s = { s with es := { s.es with queue := s.es.queue ++ [r] } })
        ∧ (s.es.queue = [] → s.es.state = .idle → s.sf.activity = .running →
            ((∀ e, r = .episode e → s.es.storedCount < 96) → (∀ c, r ≠ .checkpoint c) → (∀ l, r ≠ .leg l) →
              offer r s = started r s)
            ∧ (∀ l, r = .leg l →
                offer r s = started r { s with nv := { s.nv with legs := s.nv.legs.set (l.number - 1) none } })
            ∧ (r = .checkpoint none →
                offer r s = started (.checkpoint (some ⟨content, crc16 (Config.checkpointBytes content)⟩))
                  { s with nv := { s.nv with checkpoints := s.nv.checkpoints.set s.es.ringPosition none } })
            ∧ (∀ e, r = .episode e → 96 ≤ s.es.storedCount → offer r s =
                { foldEpisode e s with es := { (foldEpisode e s).es with state := .idle, queue := [] } }))
        ∧ (4 ≤ s.es.queue.length →
            offer r s = match r with
              | .episode e => foldEpisode e (noteNow .queueFull r.datum s)
              | _ => noteNow .queueFull r.datum s)))
  ∧ (∀ (r : QueueRecord) (s : State), s.es.criticalWaiting = true →
    let cleared : State := { s with es := { s.es with criticalWaiting := false } }
    (QueueRecord.checkpoint none ∈ s.es.queue → offer r s = offer r cleared)
    ∧ (QueueRecord.checkpoint none ∉ s.es.queue → s.es.queue.length < 4 →
        offer r s = offer r (offer (.checkpoint none) cleared))
    ∧ (QueueRecord.checkpoint none ∉ s.es.queue → 4 ≤ s.es.queue.length →
        offer r s = match r with
          | .episode e => foldEpisode e (noteNow .queueFull r.datum s)
          | _ => noteNow .queueFull r.datum s))
  ∧ (∀ (e : Episode) (s : State),
    let u : State := { s with es := { s.es with overflow :=
      ⟨min 65535 (s.es.overflow.folded + 1),
        min 16777215 (s.es.overflow.warm + (match e.charges with | some c => c.warm | none => 0)),
        min 16777215 (s.es.overflow.cold + (match e.charges with | some c => c.cold | none => 0)),
        min 16777215 (s.es.overflow.gaps + (if e.kind = .gap then e.count else 0))⟩ } }
    (s.es.storedCount < 96 ∨ s.es.logFullNoted = true → foldEpisode e s = u)
    ∧ (96 ≤ s.es.storedCount → s.es.logFullNoted = false →
        foldEpisode e s = noteNow .logFull [2, BitVec.ofNat 8 e.kind.code]
          { u with es := { u.es with logFullNoted := true } }))

/-- The end of the commissioning write (R6, R7, R147): when it verifies the record is stored, PRECOOL is entered with
every value of R6, before the OK reply that carries the stored profile as page 3 is placed (the model's order, log 53);
when it fails STORE_FAIL is noted, profile and leg are discarded, BLANK returns and the reply is STORE_FAIL. -/
def Obligations.CommissioningWriteEnds : Prop :=
  ∀ (s : State) (r : ProfileRecord) (who : Asker) (busy : Bool), s.powered = true → s.es.state = .writing →
    s.es.queue = [.profile r] → s.cu.held = some who →
    (∃ u, exec (.storeWriteEnd true false busy) s = .next (placeReply ⟨who, .ok, 3, r.bytes⟩ busy u)
      ∧ u.nv = { s.nv with profile := some r }
      ∧ u.cu = { s.cu with
          custody := .precool, causes := ⟨false, false, false, false, false, false⟩, breakInterval := none
          custodyStart := none, held := none }
      ∧ u.tb.interval = 0 ∧ u.tb.phase = 0 ∧ u.tb.fastUntil = 0 ∧ u.tb.riseRef = none ∧ u.tb.riseBuffer = none
      ∧ u.tb.alertInterval = none ∧ u.tb.mode = (if s.sf.supply = .good then .steady else .lean)
      ∧ u.tb.compare = some 0 ∧ u.tb.beaconOffset = beaconOffsetOf s.info.serial 0
      ∧ u.ie = ⟨none, some ⟨0, none, 0, none, 0, 0, ⟨false, false, false⟩⟩, ⟨0, 0⟩, 0, false, none, 0,
          ⟨0, 0, 0, 0, 0, 0, 0⟩, 0, [], none⟩
      ∧ u.lc = { s.lc with content := some ⟨0, .none, none, false, true, .precool⟩ }
      ∧ u.es.openLeg = s.es.openLeg ∧ u.es.queue = [] ∧ u.es.state = .idle ∧ u.mc = s.mc ∧ u.nt = s.nt
      ∧ u.sf = s.sf)
    ∧ (∃ u, exec (.storeWriteEnd false false busy) s = .next (placeReply ⟨who, .storeFail, 0, []⟩ busy u)
        ∧ u.cu = { s.cu with custody := .blank, commissioned := none, held := none }
        ∧ u.es = { s.es with openLeg := none, legCount := 0, queue := [], state := .idle }
        ∧ u.sf = (noteNow .storeFail [1, 0] s).sf ∧ u.nv = s.nv ∧ u.tb = s.tb ∧ u.ie = s.ie ∧ u.lc = s.lc
        ∧ u.mc = s.mc ∧ u.nt = s.nt)

/-- The end of an episode's, a leg's and a checkpoint's write (R127, R128, R133, R138, R141, R171). When it verifies
the record stands in its slot; when it fails, or ends with the cell below 1.90 V, STORE_FAIL is noted, the episode is
folded, and the slot of the leg or of the checkpoint is empty, whatever it held before (R123; log 37); the ring position
and the sequence advance either way. Then, whatever the record was and whether or not it verified, the next write
starts: with nothing behind it the store is IDLE; with a record behind it the next write starts at once while RUNNING,
a checkpoint taking its content then, each field of R140 from its owner after the end of the write before and a CRC over
all of them (over the bytes that log 16 leaves free); episodes that find 96 stored are folded instead, and the record
behind them follows in their place. A HALTED part would hold the queue (R130); no sound state writes while HALTED. -/
def Obligations.RecordWriteEnds : Prop :=
  ∀ (s : State) (verified below busy ok : Bool) (rest : List QueueRecord), s.powered = true →
    s.es.state = .writing → ok = (verified && !below) →
    let started (q : QueueRecord) (behind : List QueueRecord) (u : State) : State :=
      { u with es := { u.es with state := .writing, queue := q :: behind }, timers := { u.timers with store := 32 } }
    let content (u : State) : CheckpointContent :=
      { interval := u.ie.lastClosed.getD 0
        sequence := u.es.sequence, custody := u.cu.custody, causes := u.cu.causes, breakInterval := u.cu.breakInterval
        custodyStart := u.cu.custodyStart, counts := u.ie.counts, gapRun := u.ie.gapRun, mark := u.ie.mark
        before := u.ie.before, consensusRun := u.ie.consensusRun, precoolCount := u.ie.precoolCount
        legCount := u.es.legCount, openLeg := u.es.openLeg, overflow := u.es.overflow, sticky := u.sf.sticky
        fastUntil := u.tb.fastUntil }
    let goesOn (u : State) : Prop :=
      let ends := exec (.storeWriteEnd verified below busy) s
      (s.sf.activity = .halted → ends = .next { u with es := { u.es with state := .idle, queue := rest } })
      ∧ (∀ (folds : List Episode) (behind : List QueueRecord), s.sf.activity = .running →
        rest = folds.map QueueRecord.episode ++ behind → (folds ≠ [] → 96 ≤ u.es.storedCount) →
        let v := folds.foldl (fun v e => foldEpisode e v) u
        (behind = [] → ends = .next { v with es := { v.es with state := .idle, queue := [] } })
        ∧ (∀ r tail, behind = r :: tail →
          ((∀ e, r = .episode e → u.es.storedCount < 96) → (∀ c, r ≠ .checkpoint c) → (∀ l, r ≠ .leg l) →
            ends = .next (started r tail v))
          ∧ (∀ l, r = .leg l → ends = .next (started r tail
              { v with nv := { v.nv with legs := v.nv.legs.set (l.number - 1) none } }))
          ∧ (∀ c, r = .checkpoint c → ends = .next
              (started (.checkpoint (some ⟨content v, crc16 (Config.checkpointBytes (content v))⟩)) tail
                { v with nv := { v.nv with checkpoints := v.nv.checkpoints.set v.es.ringPosition none } }))))
    (∀ e, s.es.queue = .episode e :: rest → goesOn
      (if ok then
        { s with
          nv := { s.nv with
            episodes := s.nv.episodes.set s.es.storedCount (some { e with index := some s.es.storedCount }) }
          es := { s.es with storedCount := s.es.storedCount + 1 } }
      else foldEpisode e (noteNow .storeFail [2, BitVec.ofNat 8 e.kind.code] s)))
    ∧ (∀ l, s.es.queue = .leg l :: rest → goesOn
        { (if ok then s else noteNow .storeFail [3, 0] s) with
          nv := { s.nv with legs := s.nv.legs.set (l.number - 1) (if ok then some l else none) } })
    ∧ (∀ c, s.es.queue = .checkpoint (some c) :: rest → goesOn
        { (if ok then s else noteNow .storeFail [4, 0] s) with
          nv := { s.nv with checkpoints := s.nv.checkpoints.set s.es.ringPosition (if ok then some c else none) }
          es := { s.es with
            ringPosition := (s.es.ringPosition + 1) % 8, sequence := min 16777215 (s.es.sequence + 1) } })

/-- The closing records (R14, R158, R165). They are handed over each as the queue has room, in their order, the final
checkpoint as any other: where a checkpoint still waits unstarted it merges with that one and keeps its place, ahead of
the closed records (the model's reading, log 40); the certificate record only once the queue is empty, its content fixed
then and kept in retention; with no room nothing changes. At the end of the certificate record's write the state is
CLOSED either way; when it verifies the record is stored and OK carries page A, when it fails STORE_FAIL is noted and
the reply carries STORE_FAIL with page A. -/
def Obligations.ClosingRecordsWritten : Prop :=
  (∀ (s : State) (c : Certificate) (who : Asker) (busy : Bool), s.powered = true → s.es.state = .writing →
    s.es.queue = [.certificate c] → s.cu.held = some who →
    let closed (u : State) : State :=
      { u with cu := { s.cu with custody := .closed, held := none }, es := { s.es with state := .idle, queue := [] } }
    exec (.storeWriteEnd true false busy) s = .next
        (placeReply ⟨who, .ok, 1, c.pageA⟩ busy { closed s with nv := { s.nv with certificate := some c } })
    ∧ exec (.storeWriteEnd false false busy) s = .next
        (placeReply ⟨who, .storeFail, 1, c.pageA⟩ busy (closed (noteNow .storeFail [5, 0] s))))
  ∧ (∀ (s : State) (item : ClosingItem) (rest : List ClosingItem), s.powered = true → s.cu.custody = .closing →
    s.cu.closing = item :: rest →
    (4 ≤ s.es.queue.length → exec .closingRecordHandover s = .next s)
    ∧ (s.es.queue.length < 4 →
        let u : State := { s with cu := { s.cu with closing := rest } }
        (∀ e, item = .episode e → exec .closingRecordHandover s = .next (offer (.episode e) u))
        ∧ (∀ l, item = .leg l → exec .closingRecordHandover s = .next (offer (.leg l) u))
        ∧ (item = .checkpoint → exec .closingRecordHandover s = .next (offer (.checkpoint none) u)))
    ∧ (item = .certificate → s.es.queue ≠ [] → exec .closingRecordHandover s = .next s)
    ∧ (item = .certificate → s.es.queue = [] → s.es.state = .idle → s.sf.activity = .running →
        s.es.criticalWaiting = false →
        let c := computeCertificate false s
        exec .closingRecordHandover s = .next
          { s with
            cu := { s.cu with closing := rest, certificate := some c }
            es := { s.es with state := .writing, queue := [.certificate c] }
            timers := { s.timers with store := 32 } }))

/-! ## Supply -/

/-- The crossings of the supply (R169, R170, R173, R174): GOOD to LOW clears fast-until, selects LEAN and notes
SUPPLY_LOW; LOW to GOOD selects the mode afresh; CRITICAL to LOW in HALTED resumes RUNNING with the transceiver in its
WAIT, the rise detector cleared, the held queue taken up, and no further burst in the interval (the compare value is
none: the model's reading of R173's first scheduled burst, log 41); CRITICAL to LOW with the halt pending only changes
the level. A fall or a rise through two thresholds is both changes in order (R169), and a crossing that the supply has
already made changes nothing (the model's reading, log 25). -/
def Obligations.SupplyCrossings : Prop :=
  ∀ s : State, s.powered = true →
    let mode (m : Mode) (u : State) : State :=
      if m = u.tb.mode then u else { u with tb := { u.tb with mode := m, buffer := m.period } }
    (s.sf.supply = .good →
      exec .supplyLow s = .next (noteNow .supplyLow []
        (mode .lean { s with sf := { s.sf with supply := .low }, tb := { s.tb with fastUntil := 0 } })))
    ∧ (s.sf.supply = .low →
        exec .supplyGood s = .next
          (mode (if s.tb.interval < s.tb.fastUntil then .fast else .steady)
            { s with sf := { s.sf with supply := .good } }))
    ∧ (s.sf.supply = .critical → s.sf.activity = .running →
        exec .supplyRecover s = .next (mode .lean { s with sf := { s.sf with supply := .low } }))
    ∧ (s.sf.supply = .critical → s.sf.activity = .halted →
        let u := startWrites (mode .lean
          { s with
            sf := { s.sf with supply := .low, activity := .running }
            lc := { s.lc with enable := true, tx := .wait }
            timers := { s.timers with tx := 16 } })
        exec .supplyRecover s = .next
          { u with tb := { u.tb with riseRef := none, riseBuffer := none, alertInterval := none, compare := none } })
    ∧ (∀ u busy, s.sf.supply = .good → exec .supplyLow s = .next u →
        u.sf.supply = .low ∧ exec (.supplyCritical busy) s = exec (.supplyCritical busy) u)
    ∧ (∀ u, s.sf.supply = .critical → exec .supplyRecover s = .next u →
        u.sf.supply = .low ∧ exec .supplyGood s = exec .supplyGood u)
    ∧ (s.sf.supply ≠ .good → exec .supplyLow s = .next s)
    ∧ (s.sf.supply = .good → exec .supplyGood s = .next s)
    ∧ (∀ busy, s.sf.supply = .critical → exec (.supplyCritical busy) s = .next s)
    ∧ (s.sf.supply ≠ .critical → exec .supplyRecover s = .next s)

/-- The entry to CRITICAL (R171, steps 1 to 4): the burst in flight is aborted and a deferred close then runs, on the
accumulator that waited, before anything else; an idle transmitter senses for the ABORTED reply before the radio goes
off (the model's choice, log 46); the halt is pending, no burst and no trigger is left, the transceiver is off with both
slots empty and the transmitter idle, the table is clear, LEAN is selected; and in service the CRITICAL checkpoint
stands in the queue or waits for room, or its content is being written. With the halt already pending a second fall
changes only the level and selects the mode (R174). A checkpoint that waits for room takes the place that a write's end
freed, or merges with a checkpoint that waits unstarted; while the queue is full it goes on waiting (R129). -/
def Obligations.CriticalEntry : Prop :=
  (∀ (s : State) (busy : Bool), s.powered = true → s.sf.supply = .low → s.sf.haltPending = false →
    s.ConverterSound → s.CustodySound → s.es.criticalWaiting = false →
    let fallen : State :=
      { s with
        sf := { s.sf with supply := .critical, haltPending := true }
        tb := { s.tb with mode := .lean, buffer := if s.tb.mode = .lean then s.tb.buffer else 60000 } }
    let aborted := abortBurst busy fallen
    let closed : State := match s.ie.old with
      | some acc =>
        { closeInterval false acc aborted with ie := { (closeInterval false acc aborted).ie with old := none } }
      | none => aborted
    let v : State :=
      { closed with
        lc := { closed.lc with
          enable := false, tx := .idle, served := none, attempts := 0, onAir := none
          beaconSlot := none, replySlot := none }
        nt := List.replicate 24 none }
    ∃ t, exec (.supplyCritical busy) s = .next t
      ∧ (s.cu.custody.inService = false → t = v)
      ∧ (s.cu.custody.inService = true →
          exec .criticalCheckpointOffer { v with es := { v.es with criticalWaiting := true } } = .next t)
      ∧ t.sf.supply = .critical ∧ t.sf.haltPending = true
      ∧ t.sf.activity = s.sf.activity ∧ t.mc.burst = .idle ∧ t.mc.triggers = ⟨false, false, false⟩
      ∧ t.mc.last = s.mc.last ∧ t.ie.old = none ∧ t.lc.enable = false ∧ t.lc.beaconSlot = none
      ∧ t.lc.replySlot = none ∧ t.lc.tx = .idle ∧ t.lc.served = none ∧ t.lc.onAir = none
      ∧ t.nt = List.replicate 24 none ∧ t.tb.mode = .lean
      ∧ (s.cu.custody.inService = true →
          (∃ c, QueueRecord.checkpoint c ∈ t.es.queue) ∨ t.es.criticalWaiting = true)
      ∧ (s.cu.custody.inService = false → t.es = s.es ∧ t.cu = s.cu))
  ∧ (∀ (s : State) (busy : Bool), s.powered = true → s.sf.supply = .low → s.sf.haltPending = true →
    exec (.supplyCritical busy) s = .next
      { s with
        sf := { s.sf with supply := .critical }
        tb := { s.tb with mode := .lean, buffer := if s.tb.mode = .lean then s.tb.buffer else 60000 } })
  ∧ (∀ s : State, s.powered = true → s.es.criticalWaiting = true →
    let cleared : State := { s with es := { s.es with criticalWaiting := false } }
    (QueueRecord.checkpoint none ∈ s.es.queue → exec .criticalCheckpointOffer s = .next cleared)
    ∧ (QueueRecord.checkpoint none ∉ s.es.queue → s.es.queue.length < 4 → s.es.state = .writing →
        exec .criticalCheckpointOffer s = .next
          { cleared with es := { cleared.es with queue := s.es.queue ++ [.checkpoint none] } })
    ∧ (QueueRecord.checkpoint none ∉ s.es.queue → 4 ≤ s.es.queue.length →
        exec .criticalCheckpointOffer s = .next s))

/-- The store reports ready (R171 step 5, R174): with the supply still CRITICAL the part halts and SUPPLY_CRITICAL is
noted with 1; with the supply risen it stays RUNNING, notes it with 0, and its radio and rise detector start afresh.
While the store has something left to write nothing happens. -/
def Obligations.HaltReadyHalts : Prop :=
  ∀ s : State, s.powered = true →
    let ready := s.sf.haltPending = true ∧ s.es.criticalWaiting = false ∧ s.es.queue = [] ∧ s.es.state = .idle
      ∧ s.cu.custody ≠ .closing
    (ready → s.sf.supply = .critical →
      exec .haltReady s = .next (noteNow .supplyCritical [1]
        { s with sf := { s.sf with activity := .halted, haltPending := false } }))
    ∧ (ready → s.sf.supply ≠ .critical →
        exec .haltReady s = .next (noteNow .supplyCritical [0]
          { s with
            sf := { s.sf with haltPending := false }
            lc := { s.lc with enable := true, tx := .wait }
            tb := { s.tb with riseRef := none, riseBuffer := none, alertInterval := none }
            timers := { s.timers with tx := 16 } }))
    ∧ (¬ ready → exec .haltReady s = .next s)

/-- Below 1.80 V everything outside the store is lost (R172); the store's areas and the information store stay. What the
blocks show while there is no power is the model's choice: their power-on values, the supply CRITICAL, the part HALTED
with its transceiver off; and no command but a power-on then has an effect (log 8). A power-on of an empty store, or of
one whose erase was cut short and is finished now, comes up BLANK with the power-on values (R60, R106, R107, R169, R175,
R179): RUNNING from 2.35 V with the transceiver in its WAIT, HALTED below. -/
def Obligations.PowerLostAndBlankPowerOn : Prop :=
  (∀ s : State, s.powered = true →
    ∃ t, exec .retentionLoss s = .next t ∧ t.nv = s.nv ∧ t.info = s.info ∧ t.powered = false
      ∧ t.cu = State.reset.cu ∧ t.mc = State.reset.mc ∧ t.ie = State.reset.ie ∧ t.nt = List.replicate 24 none
      ∧ t.es = State.reset.es ∧ t.sf = ⟨.critical, .halted, false, 0, none, false, 0⟩
      ∧ t.tb = ⟨0, 0, 0, .lean, 0, some 0, 60000, 60000, none, none, none, beaconOffsetOf s.info.serial 0⟩
      ∧ t.lc = { State.reset.lc with enable := false, tx := .idle, generator := lfsrSeed s.info.serial })
  ∧ (∀ (i : Instr) (s : State), s.powered = false → (∀ mv, i ≠ .powerOn mv) → exec i s = .next s)
  ∧ ∀ (s : State) (mv : Nat), s.nv.eraseMarker = true ∨ s.nv.profile = none →
      let running := decide (2350 ≤ mv)
      let supply : Supply := if 2600 ≤ mv then .good else if 2350 ≤ mv then .low else .critical
      ∃ t, exec (.powerOn mv) s = .next t ∧ t.powered = true
        ∧ t.nv = (if s.nv.eraseMarker then State.reset.nv else s.nv)
        ∧ t.cu = State.reset.cu ∧ t.mc = State.reset.mc ∧ t.ie = State.reset.ie ∧ t.nt = List.replicate 24 none
        ∧ t.es = State.reset.es
        ∧ t.sf = ⟨supply, if running then .running else .halted, false, 0, none, false, 0⟩
        ∧ t.tb.interval = 0 ∧ t.tb.phase = 0 ∧ t.tb.fastUntil = 0 ∧ t.tb.compare = some 0
        ∧ t.tb.riseRef = none ∧ t.tb.riseBuffer = none ∧ t.tb.alertInterval = none
        ∧ t.tb.mode = (if 2600 ≤ mv then .steady else .lean) ∧ t.tb.period = t.tb.mode.period
        ∧ t.tb.buffer = t.tb.mode.period ∧ t.tb.beaconOffset = beaconOffsetOf s.info.serial 0
        ∧ t.lc = { State.reset.lc with
            enable := running, tx := if running then .wait else .idle, generator := lfsrSeed s.info.serial }

/-- A power-on with a profile record and a certificate record comes up CLOSED (R175, R166). Custody start, cause set and
break interval, W and C, the coverage counts and the leg count are the certificate's, which stands in retention as the
record is; the gap run is 0 with its mark clear. The stored episodes are counted up to the first empty slot. The
overflow summary, the sticky set, fast-until (cleared below 2.60 V, R60), the precool counter, the consensus run and the
figures before are those of the newest valid checkpoint: of those whose CRC agrees, the one of the greatest interval
number and then of the greater sequence (R141; of two equal ones the lower slot's, log 43). With none valid the sticky
set is the certificate's, the figures are absent and the others 0. The interval number is one more than the greatest
number found in the valid checkpoints, the stored episodes and legs and the certificate's end interval, held at
16,777,215; of a checkpoint its own interval number counts (log 17), and with none found it is 1 (log 36). No leg is
open, no accumulator exists, the beacon content is none, and nothing is written. The model's choices beside them: the
ring position and the sequence after the newest checkpoint, 0 and 0 with none, the certificate's end interval as the
last closed one, and an empty history and no open episode (log 35). -/
def Obligations.PowerOnClosed : Prop :=
  ∀ (s : State) (mv : Nat) (p : ProfileRecord) (c : Certificate) (newestOne : Option (Nat × CheckpointContent)),
    s.nv.eraseMarker = false → s.nv.profile = some p → s.nv.certificate = some c →
    let validAt (k : Nat) (x : CheckpointContent) : Prop :=
      s.nv.checkpoints[k]? = some (some ⟨x, crc16 (Config.checkpointBytes x)⟩)
    (newestOne = none → ∀ k x, ¬ validAt k x) →
    (∀ k x, newestOne = some (k, x) → validAt k x
      ∧ ∀ j y, validAt j y → y.interval < x.interval ∨ (y.interval = x.interval
            ∧ (y.sequence < x.sequence ∨ (y.sequence = x.sequence ∧ k ≤ j)))) →
    let base (α : Type) (absent : α) (f : CheckpointContent → α) : α :=
      match newestOne with | some (_, x) => f x | none => absent
    let found (n : Nat) : Prop := (∃ k x, validAt k x ∧ n = x.interval)
      ∨ (∃ e, some e ∈ s.nv.episodes ∧ (n = e.start ∨ e.finish = some n))
      ∨ (∃ l, some l ∈ s.nv.legs ∧ (n = l.start ∨ l.finish = some n)) ∨ c.endInterval = some n
    ∃ t, exec (.powerOn mv) s = .next t ∧ t.nv = s.nv ∧ t.cu.custody = .closed ∧ t.cu.causes = c.causes
      ∧ t.cu.breakInterval = c.breakInterval ∧ t.cu.custodyStart = c.custodyStart ∧ t.cu.commissioned = some p
      ∧ t.cu.certificate = some c ∧ certificateNow t = c
      ∧ t.ie =
          { old := none, cur := none, exposure := c.exposure, gapRun := 0, mark := false
            before := base (Option Figures) none (·.before), consensusRun := base Nat 0 (·.consensusRun)
            counts := c.counts, precoolCount := base Nat 0 (·.precoolCount), history := []
            lastClosed := c.endInterval }
      ∧ t.es = { t.es with
          state := .idle, queue := [], openExcursion := none, openGap := none, openCover := none, openLeg := none
          legCount := c.legCount, overflow := base Overflow ⟨0, 0, 0, 0⟩ (·.overflow)
          ringPosition := (match newestOne with | some (k, _) => (k + 1) % 8 | none => 0)
          sequence := base Nat 0 (fun x => min 16777215 (x.sequence + 1)) }
      ∧ (∀ n, (∀ k < n, ∃ e, s.nv.episodes[k]? = some (some e)) → (∀ e, s.nv.episodes[n]? ≠ some (some e)) →
          t.es.storedCount = n)
      ∧ t.sf.sticky = base (BitVec 22) c.sticky (·.sticky) ∧ t.sf.context = none ∧ t.sf.unread = 0
      ∧ ((∀ n, ¬ found n) → t.tb.interval = 1)
      ∧ (∀ m, found m → (∀ n, found n → n ≤ m) → t.tb.interval = min 16777215 (m + 1))
      ∧ t.tb.phase = 0 ∧ t.tb.fastUntil = (if 2600 ≤ mv then base Nat 0 (·.fastUntil) else 0)
      ∧ t.nt = List.replicate 24 none ∧ t.lc.content = none

/-- A power-on with a profile record and no certificate record comes up BROKEN (R11, R141, R175 to R178, R182): the
profile is reloaded, POWER_LOSS enters the causes of the newest valid checkpoint, the first break lies at the resume
interval less one, and custody start, the counts, the runs before, the overflow summary and fast-until are the
checkpoint's, zero without one. The newest is, of those whose CRC agrees, the one of the greatest interval number and
then of the greater sequence; the resume interval is one more than the greatest number found in it and in every stored
episode's and leg's start and end, 1 with none, held at 16,777,215. W and C are the stored episodes' charges with the
overflow sums; an open gap run is counted unbridged and over; the missing intervals are counted lost when custody had
started. One empty accumulator gathers the resume interval. The checkpoint's open leg stays open unless a record of its
number or a higher one is stored; then, or where the checkpoint holds none, the next leg is opened at the resume
interval, or leg 16 again. The POWER episode stands in the queue, with a BREAK episode behind it when POWER_LOSS is the
first cause; at 2.35 V or more its write starts at once, or both are folded where 96 are stored. The first note taken is
the context, and both codes enter the checkpoint's sticky set.

The model's choices: the resume interval counts the checkpoint's own interval number (log 17), the open-leg rule without
a valid checkpoint and the leg count of a leg 16 (log 18, log 19), the leg of the POWER and BREAK episodes and the order
of the notes before the writes (log 20), the lost and unbridged counts stopping at 16,777,215 (log 27), a start past the
greatest number being held (log 28), and of two equal checkpoints the lower slot's (log 43). -/
def Obligations.PowerOnBroken : Prop :=
  ∀ (s : State) (mv : Nat) (p : ProfileRecord), s.nv.eraseMarker = false → s.nv.profile = some p →
    s.nv.certificate = none →
    let resume := s.nv.resume
    let used := s.nv.used
    let base (α : Type) (zero : α) (f : CheckpointContent → α) : α := (used.map f).getD zero
    let causes := base Causes ⟨false, false, false, false, false, false⟩ (·.causes)
    let counts := base Counts ⟨0, 0, 0, 0, 0, 0, 0⟩ (·.counts)
    let overflow := base Overflow ⟨0, 0, 0, 0⟩ (·.overflow)
    let missing := base Nat 0 (fun k => if k.custody = .chilled ∨ k.custody = .excursion ∨ k.custody = .broken
      ∨ k.custody = .closing then resume - 1 - k.interval else 0)
    let charges (f : Charges → Nat) : Nat :=
      ((s.nv.episodes.filterMap id).map (fun e => match e.charges with | some c => f c | none => 0)).sum
    let validAt (k : Nat) (x : CheckpointContent) : Prop :=
      s.nv.checkpoints[k]? = some (some ⟨x, crc16 (Config.checkpointBytes x)⟩)
    let found (n : Nat) : Prop := (∃ x, used = some x ∧ n = x.interval)
      ∨ (∃ e, some e ∈ s.nv.episodes ∧ (n = e.start ∨ e.finish = some n))
      ∨ (∃ l, some l ∈ s.nv.legs ∧ (n = l.start ∨ l.finish = some n))
    ∃ t, exec (.powerOn mv) s = .next t ∧ t.cu.custody = .broken ∧ t.cu.commissioned = some p
      ∧ t.cu.causes = { causes with powerLoss := true }
      ∧ t.cu.breakInterval = (if causes.nonempty then used.bind (·.breakInterval) else some (resume - 1))
      ∧ t.cu.custodyStart = used.bind (·.custodyStart)
      ∧ t.tb.interval = resume ∧ t.tb.phase = 0 ∧ t.tb.compare = some 0
      ∧ t.tb.fastUntil = (if 2600 ≤ mv then base Nat 0 (·.fastUntil) else 0)
      ∧ t.ie = { t.ie with
          old := none, cur := some ⟨resume, none, 0, none, 0, 0, ⟨false, false, false⟩⟩, history := []
          gapRun := 0, mark := false, lastClosed := some (resume - 1)
          before := used.bind (·.before), consensusRun := base Nat 0 (·.consensusRun)
          precoolCount := base Nat 0 (·.precoolCount)
          exposure := ⟨min 16777215 (charges (·.warm) + overflow.warm), min 16777215 (charges (·.cold) + overflow.cold)⟩
          counts := { counts with
            lost := min 16777215 (counts.lost + missing)
            unbridged := min 16777215 (counts.unbridged + base Nat 0 (·.gapRun)) } }
      ∧ ((∀ n, ¬ found n) → resume = 1)
      ∧ (∀ m, found m → (∀ n, found n → n ≤ m) → resume = min 16777215 (m + 1))
      ∧ used = (newest s.nv.valid).map (·.2) ∧ (newest s.nv.valid = none → ∀ k x, ¬ validAt k x)
      ∧ (∀ k x, newest s.nv.valid = some (k, x) → validAt k x
          ∧ ∀ j y, validAt j y → y.interval < x.interval ∨ (y.interval = x.interval
            ∧ (y.sequence < x.sequence ∨ (y.sequence = x.sequence ∧ k ≤ j))))
      ∧ t.nt = List.replicate 24 none ∧ t.lc.content = some ⟨resume - 1, .none, none, false, true, .broken⟩
      ∧ (∀ n, (∀ k < n, ∃ e, s.nv.episodes[k]? = some (some e)) → (∀ e, s.nv.episodes[n]? ≠ some (some e)) →
          t.es.storedCount = n)
      ∧ (newest s.nv.valid = none → t.es.ringPosition = 0 ∧ t.es.sequence = 0)
      ∧ (∀ k c, newest s.nv.valid = some (k, c) →
          t.es.ringPosition = (k + 1) % 8 ∧ t.es.sequence = min 16777215 (c.sequence + 1))
      ∧ (let leg := base (Option Leg)
          (some ⟨1, p.profile.compartment, p.profile.carrier, 0, none, none, ⟨0, 0⟩, 0, 0, 0, 0, 0⟩) (·.openLeg)
        let count := base Nat 1 (·.legCount)
        let highest := highestLeg (s.nv.legs.filterMap id)
        let fresh (n compartment carrier : Nat) : Leg :=
          ⟨n, compartment, carrier, resume, none, none, ⟨0, 0⟩, 0, 0, 0, 0, 0⟩
        let opens (l : Leg) (n : Nat) : Prop := t.es.openLeg = some l ∧ t.es.legCount = n
        (highest = none ↔ ∀ l, some l ∉ s.nv.legs)
        ∧ (∀ h, highest = some h → some h ∈ s.nv.legs ∧ ∀ l, some l ∈ s.nv.legs → l.number ≤ h.number)
        ∧ (∀ l h, leg = some l → highest = some h → l.number ≤ h.number →
            (h.number < 16 → opens (fresh (h.number + 1) h.compartment h.carrier) (h.number + 1))
            ∧ (16 ≤ h.number → opens { h with finish := none } 16))
        ∧ (∀ l, leg = some l → (∀ h, highest = some h → h.number < l.number) → opens l count)
        ∧ (∀ h, leg = none → highest = some h →
            (count < 16 → opens (fresh (count + 1) h.compartment h.carrier) (count + 1))
            ∧ (16 ≤ count → h.number = 16 → opens { h with finish := none } 16)
            ∧ (16 ≤ count → h.number ≠ 16 → opens (fresh 16 h.compartment h.carrier) 16))
        ∧ (leg = none → highest = none →
            (count < 16 → opens (fresh (count + 1) p.profile.compartment p.profile.carrier) (count + 1))
            ∧ (16 ≤ count → opens (fresh 16 p.profile.compartment p.profile.carrier) 16)))
      ∧ (∃ power, power.kind = .power ∧ power.finish = some resume ∧ power.lostUnknown = true ∧ power.charges = none
          ∧ power.start = base Nat 0 (fun k => min 16777215 (k.interval + 1))
          ∧ power.count = resume - power.start + 1
          ∧ (mv < 2350 ∨ t.es.storedCount < 96 → t.es.overflow = overflow
            ∧ t.es.state = (if mv < 2350 then .idle else .writing)
            ∧ ((causes.nonempty = true ∧ t.es.queue = [.episode power])
              ∨ (causes.nonempty = false ∧ ∃ brk, t.es.queue = [.episode power, .episode brk] ∧ brk.kind = .brk
                  ∧ brk.start = resume - 1 ∧ brk.finish = some (resume - 1)
                  ∧ brk.causes = ⟨false, false, false, false, false, true⟩))))
      ∧ (2350 ≤ mv → 96 ≤ t.es.storedCount → t.es.queue = [] ∧ t.es.state = .idle
          ∧ t.es.overflow.folded = min 65535 (overflow.folded + if causes.nonempty then 1 else 2))
      ∧ (∀ k, used = some k →
          t.sf.context = some ⟨.powerLoss, resume, 0, [1] ++ beBytes 3 k.interval ++ beBytes 3 resume ++ [0]⟩
            ∧ (mv < 2350 ∨ t.es.storedCount < 96 →
                t.sf.unread = 1 ∧ t.sf.multiple = false ∧ t.sf.sticky = k.sticky ||| (1#22 <<< 21)))
      ∧ (used = none →
          t.sf.context = some ⟨.checkpointBad, resume, 0, [4, 0, 0, 0, 0, 0, 0, 0]⟩
            ∧ (mv < 2350 ∨ t.es.storedCount < 96 →
                t.sf.unread = 2 ∧ t.sf.multiple = true ∧ t.sf.sticky = (1#22 <<< 18) ||| (1#22 <<< 21)))

/-! ## The interval close -/

/-- What a close counts, records and hands on. A custody interval is counted once (R75 to R77, R79, R81): the own, air
and witness counts take it by its coverage, the raised count with it, and the own, air, witness, bridged and unbridged
counts and the gap run together rise by one, whatever the coverage and whether or not the close is the partial one, as
long as no count has reached its bound; any other close leaves the counts, the run, W and C (R71). Every close puts one
record with each field of R82 into the ring as its newest, 64 at most (R83), its mode the one in force when the close
runs (of a deferred close behind which the mode changed this is the model's choice, log 47). After stage 8 a close of an
interval whose number mod 15 is 14, the partial one apart, offers a checkpoint; LC takes the beacon content with the
verdict CU left (R88), and every peer not heard since has its age raised by one and leaves at 6 (R97). -/
def Obligations.CloseCountsRecordsAndHandsOn : Prop :=
  ∀ (partialClose : Bool) (acc : Accumulator) (s : State),
    let ev := closeEvidence acc s
    let raised := (closeConsensus acc s).raised
    let t := closeInterval partialClose acc s
    let custody := s.cu.custody = .chilled ∨ s.cu.custody = .excursion ∨ s.cu.custody = .broken
    let starts := s.cu.custody = .precool ∧ partialClose = false ∧ ev.coverage = .own
      ∧ ∃ f, ev.figures = some f ∧ s.profile.lower ≤ f.lo ∧ f.hi ≤ s.profile.upper
    let total (ie : ExposureBlock) := ie.counts.own + ie.counts.air + ie.counts.witness + ie.counts.bridged
      + ie.counts.unbridged + ie.gapRun
    let own : Charges := match ev.figures with
      | some f => if custody then ⟨(f.hi - s.profile.upper).toNat, (s.profile.lower - f.lo).toNat⟩ else ⟨0, 0⟩
      | none => ⟨0, 0⟩
    let bridge : Option Charges := match ev.figures with
      | some f =>
        if custody ∧ s.ie.mark = false ∧ 0 < s.ie.gapRun then
          let before := s.ie.before.getD f
          some ⟨s.ie.gapRun * (max before.hi f.hi - s.profile.upper).toNat,
            s.ie.gapRun * (s.profile.lower - min before.lo f.lo).toNat⟩
        else none
      | none => none
    let s8 := afterCustody partialClose acc s
    let s9 := if acc.interval % 15 = 14 ∧ partialClose = false then offer (.checkpoint none) s8 else s8
    (custody ∨ starts → TableSound s.info.serial s.nt → s.ie.gapRun ≤ 255 → total s.ie < 16776255 →
      total t.ie = total s.ie + 1
      ∧ t.ie.counts.own = s.ie.counts.own + (if ev.coverage = .own then 1 else 0)
      ∧ t.ie.counts.air = s.ie.counts.air + (if ev.coverage = .air then 1 else 0)
      ∧ t.ie.counts.witness = s.ie.counts.witness + (if ev.coverage = .witness then 1 else 0)
      ∧ (s.ie.counts.raised < 16777215 → t.ie.counts.raised = s.ie.counts.raised + raised.toNat))
    ∧ (¬ (custody ∨ starts) → t.ie.counts = s.ie.counts ∧ t.ie.gapRun = s.ie.gapRun ∧ t.ie.mark = s.ie.mark
      ∧ t.ie.exposure = s.ie.exposure)
    ∧ t.ie.counts.lost = s.ie.counts.lost ∧ t.ie.lastClosed = some acc.interval
    ∧ t.ie.history =
        ⟨acc.interval, ev.coverage, ev.figures, acc.bursts, acc.pCount, acc.sources, ev.witness, raised, own, bridge,
          s.tb.mode, decide (s.sf.activity = .halted), partialClose⟩ :: s.ie.history.take 63
    ∧ t.es = s9.es ∧ t.nv = s9.nv ∧ t.sf = s9.sf
    ∧ t.lc = { s.lc with
        content := some ⟨acc.interval, ev.coverage, ev.figures, raised, decide (acc.pCount = 0), t.cu.custody⟩ }
    ∧ t.nt = s.nt.map (fun slot => match slot with
        | none => none
        | some p =>
          if acc.interval ≤ p.arrival.interval then some p
          else if 5 ≤ p.age then none
          else some { p with age := p.age + 1 })

/-- How a close covers its interval, compares it with the peers and charges it. Coverage is the first case of R67 that
applies: GAP while HALTED; OWN with the P extremes; AIR or WITNESS, where the profile allows it, with figures widened by
the margin and clamped (R68); else GAP. An interval not OWN, or OWN with fewer than three peers in the consensus set or
with Tw not below the median less the disagreement limit, sets the consensus run to 0; any other OWN interval increments
it (R69), and from a run of 5 on Tw is raised to that limit, with PROBE_COLD_SUSPECT noted at the close that reaches 5
and only there (R70). A covered close in custody charges its figures (R73, R74, R76 to R78): W rises by how far Tw
stands above U and C by how far Tc stands below L, each stopping at 16,777,215; an open run within the allowance is
bridged first, for each of its minutes at the worse of the figures on its two sides, and one beyond it is counted
unbridged without a charge. A GAP close charges nothing and lengthens the run, at 255 the unbridged count instead, and
sets the mark when the run reaches G + 1 (R75). That the bridged and unbridged counts stop at 16,777,215 too is the
model's reading (log 27). A close in PRECOOL, the one that starts custody too, takes a covered interval's figures for
the figures before, keeps them at GAP, and leaves the run, its mark, W and C (R71). -/
def Obligations.CloseCoversAndCharges : Prop :=
  ∀ (partialClose : Bool) (acc : Accumulator) (s : State),
    let first := coverageOf acc s
    let ev := closeEvidence acc s
    let raised := (closeConsensus acc s).raised
    let t := closeInterval partialClose acc s
    let clamp (x : Int) : Int := max (-4000) (min 8500 x)
    let widened (m : Int) (f : Figures) : Figures := ⟨clamp (f.hi + m), clamp (f.lo - m)⟩
    (s.sf.activity = .halted → first = ⟨.gap, none, none⟩)
    ∧ (s.sf.activity = .running →
      (∀ f, acc.p = some f → first = ⟨.own, some f, none⟩)
      ∧ (acc.p = none →
        (∀ f, acc.a = some f → s.profile.airUse = true →
          first = ⟨.air, some (widened s.profile.airMargin f), none⟩)
        ∧ (acc.a = none ∨ s.profile.airUse = false →
          (∀ w, s.profile.witnessUse = true → witnessFor acc.interval s = some w →
            first = ⟨.witness, w.figures.map (widened s.profile.witnessMargin), some w.serial⟩)
          ∧ (s.profile.witnessUse = false ∨ witnessFor acc.interval s = none → first = ⟨.gap, none, none⟩))))
    ∧ (first.coverage ≠ .own → ev = first ∧ raised = false ∧ t.ie.consensusRun = 0)
    ∧ (∀ f, first.coverage = .own → first.figures = some f →
      let heard : List Int := match s.es.openLeg with
        | none => []
        | some leg => s.nt.filterMap (fun slot => match slot with
          | none => none
          | some p =>
            if p.age = 0 ∧ p.arrival.interval = acc.interval ∧ p.compartment = leg.compartment ∧ p.coverage = .own
              ∧ p.raised = false then some ((p.figures.map (·.hi)).getD 0) else none)
      let median := (closeConsensus acc s).median
      let limit := median - s.profile.disagreement
      ev.coverage = .own ∧ ev.witness = first.witness
      ∧ (heard ≠ [] → median ∈ heard ∧ (heard.filter (fun x => decide (x < median))).length < (heard.length + 1) / 2
          ∧ (heard.length + 1) / 2 ≤ (heard.filter (fun x => decide (x ≤ median))).length)
      ∧ (heard.length < 3 ∨ limit ≤ f.hi → ev = first ∧ raised = false ∧ t.ie.consensusRun = 0)
      ∧ (3 ≤ heard.length → f.hi < limit →
          t.ie.consensusRun = min 255 (s.ie.consensusRun + 1)
          ∧ (s.ie.consensusRun < 4 → ev = first ∧ raised = false)
          ∧ (4 ≤ s.ie.consensusRun → ev.figures = some ⟨clamp limit, f.lo⟩ ∧ raised = true)
          ∧ (s.ie.consensusRun = 4 → t.sf.sticky &&& (1#22 <<< 9) = 1#22 <<< 9
            ∧ (s.sf.context = none → t.sf.context = some ⟨.probeColdSuspect, s.tb.interval, s.tb.phase,
                tempBytes f.hi ++ tempBytes median ++ [0, 0, 0, 0]⟩))))
    ∧ (raised = false ∨ s.ie.consensusRun ≠ 4 → (afterConsensus acc s).sf = s.sf)
    ∧ (∀ f, s.cu.custody.charges = true → ev.figures = some f →
      let warm := (f.hi - s.profile.upper).toNat
      let cold := (s.profile.lower - f.lo).toNat
      t.ie.before = some f ∧ t.ie.gapRun = 0 ∧ t.ie.mark = false
      ∧ (s.ie.mark = true ∨ s.ie.gapRun = 0 →
          t.ie.exposure =
            ⟨min 16777215 (s.ie.exposure.warm + warm), min 16777215 (s.ie.exposure.cold + cold)⟩)
      ∧ (s.ie.mark = true → t.ie.counts.unbridged = min 16777215 (s.ie.counts.unbridged + s.ie.gapRun)
          ∧ t.ie.counts.bridged = s.ie.counts.bridged)
      ∧ (s.ie.mark = false → 0 < s.ie.gapRun →
          let before := s.ie.before.getD f
          let bridgeWarm := s.ie.gapRun * (max before.hi f.hi - s.profile.upper).toNat
          let bridgeCold := s.ie.gapRun * (s.profile.lower - min before.lo f.lo).toNat
          t.ie.exposure =
              ⟨min 16777215 (min 16777215 (s.ie.exposure.warm + bridgeWarm) + warm),
                min 16777215 (min 16777215 (s.ie.exposure.cold + bridgeCold) + cold)⟩
            ∧ t.ie.counts.bridged = min 16777215 (s.ie.counts.bridged + s.ie.gapRun)))
    ∧ (s.cu.custody = .precool → t.ie.gapRun = s.ie.gapRun ∧ t.ie.mark = s.ie.mark ∧ t.ie.exposure = s.ie.exposure
      ∧ (∀ f, ev.figures = some f → t.ie.before = some f) ∧ (ev.figures = none → t.ie.before = s.ie.before))
    ∧ (s.cu.custody.charges = true → ev.figures = none → s.ie.gapRun ≤ 255 →
      let run := min 255 (s.ie.gapRun + 1)
      t.ie.exposure = s.ie.exposure ∧ t.ie.before = s.ie.before
      ∧ (partialClose = false → t.ie.gapRun = run
        ∧ t.ie.mark = (s.ie.mark || decide (run = s.profile.gapAllowance + 1))
        ∧ t.ie.counts.unbridged =
            (if s.ie.gapRun = 255 then min 16777215 (s.ie.counts.unbridged + 1) else s.ie.counts.unbridged))
      ∧ (partialClose = true → t.ie.gapRun = 0 ∧ t.ie.counts.unbridged = min 16777215
          ((if s.ie.gapRun = 255 then min 16777215 (s.ie.counts.unbridged + 1) else s.ie.counts.unbridged) + run)))

/-- Custody starts at the first PRECOOL close of coverage OWN with both figures in the chill range (R4, R9): the custody
start is that interval and the state CHILLED, and the interval is added into the open leg as an OWN one without charges
(R88, R136); any other PRECOOL close advances the precool counter and adds nothing to the leg, and breaks custody with
PRECOOL when the counter so reaches the allowance: a BREAK episode of that interval and that cause is then offered
(R11), joining the queue as its last where it has room. The partial close of a CLOSE in PRECOOL neither starts custody
nor advances the counter, and the store, with the leg, stays as it was (R13). -/
def Obligations.PrecoolCloseDecides : Prop :=
  (∀ (acc : Accumulator) (s : State), s.cu.custody = .precool →
    s.cu.causes = ⟨false, false, false, false, false, false⟩ →
    s.ie.precoolCount < s.profile.precoolLimit → s.profile.precoolLimit ≤ 240 →
    let ev := closeEvidence acc s
    let t := closeInterval false acc s
    let s8 := afterCustody false acc s
    let starts := ev.coverage = .own ∧ ∃ f, ev.figures = some f ∧ s.profile.lower ≤ f.lo ∧ f.hi ≤ s.profile.upper
    let broken : CustodyBlock := { s.cu with
      custody := .broken, breakInterval := some acc.interval, causes := ⟨false, false, false, false, true, false⟩ }
    let leg : Nat := match s.es.openLeg with | some l => l.number | none => 0
    let brk : Episode := ⟨.brk, none, leg, acc.interval, some acc.interval, 1, 0, 0, none, 0, 0, none,
      ⟨false, false, false, false, true, false⟩, false⟩
    (starts → t.cu = { s.cu with custody := .chilled, custodyStart := some acc.interval }
      ∧ t.ie.precoolCount = s.ie.precoolCount)
    ∧ (¬ starts → t.ie.precoolCount = s.ie.precoolCount + 1)
    ∧ (¬ starts → s.ie.precoolCount + 1 < s.profile.precoolLimit → t.cu = s.cu)
    ∧ (¬ starts → s.ie.precoolCount + 1 = s.profile.precoolLimit →
        t.cu = { s.cu with
          custody := .broken, breakInterval := some acc.interval
          causes := ⟨false, false, false, false, true, false⟩ })
    ∧ (∀ f l, starts → ev.figures = some f → s.es.openLeg = some l → l.own < 16777215 → l.charges.warm ≤ 16777215 →
        l.charges.cold ≤ 16777215 →
        let added : Leg := { l with
          own := l.own + 1
          figures := some (match l.figures with | some g => ⟨max g.hi f.hi, min g.lo f.lo⟩ | none => f) }
        t.es.openLeg = some added
        ∧ (s.es.openExcursion = none → s.es.openGap = none → s.es.openCover = none →
            s8.es = { s.es with openLeg := some added }))
    ∧ (¬ starts → t.es.openLeg = s.es.openLeg)
    ∧ (¬ starts → s.ie.precoolCount + 1 < s.profile.precoolLimit → s8.es = s.es)
    ∧ (¬ starts → s.ie.precoolCount + 1 = s.profile.precoolLimit →
        s8.es = (offer (.episode brk) { afterRecord false acc s with
            cu := broken, ie := { (afterRecord false acc s).ie with precoolCount := s.ie.precoolCount + 1 } }).es
        ∧ (s.es.criticalWaiting = false → s.es.state ≠ .idle ∨ s.sf.activity = .halted → s.es.queue.length < 4 →
            s8.es = { s.es with queue := s.es.queue ++ [.episode brk] })))
  ∧ (∀ (acc : Accumulator) (s : State), s.cu.custody = .precool →
    let t := closeInterval true acc s
    t.cu = s.cu ∧ t.ie.precoolCount = s.ie.precoolCount ∧ t.es = s.es ∧ t.nv = s.nv)

/-- Episodes, leg and custody after a close in CHILLED, EXCURSION or BROKEN. The EXCURSION episode opens, is extended or
ends as the table of R84 says, the GAP episode as R85 and the COVER episode as R86; the interval's coverage, figures and
charges are added into the open leg (R136). The episodes ended are offered to the store in that order (R87), and at a
first break the BREAK episode after them, holding the interval as both its ends and the causes found (R11). A first
cause found breaks custody at the closed interval; otherwise the state is EXCURSION when the interval's own charges are
not both zero, and CHILLED when they are; in BROKEN the causes found join the set, and the state and the break interval
stay (R3, R10, R12). The causes found are a peak reached, a budget exceeded, and a gap run that has just passed its
allowance (R75, R80; at the partial close too: the model's reading, log 39). Sums of an episode or a leg stop at
16,777,215 (log 27). -/
def Obligations.CustodyCloseDecides : Prop :=
  ∀ (partialClose : Bool) (acc : Accumulator) (s : State), s.cu.custody.charges = true →
    let n := acc.interval
    let t := closeInterval partialClose acc s
    let coverage := (closeEvidence acc s).coverage
    let figures := (closeEvidence acc s).figures
    let found : Causes := closeFound partialClose acc s
    let warm : Nat := match figures with | some f => (f.hi - s.profile.upper).toNat | none => 0
    let cold : Nat := match figures with | some f => (s.profile.lower - f.lo).toNat | none => 0
    let bridge : Option Charges := match figures with
      | some f =>
        if s.ie.mark = false ∧ 0 < s.ie.gapRun then
          let before := s.ie.before.getD f
          some ⟨s.ie.gapRun * (max before.hi f.hi - s.profile.upper).toNat,
            s.ie.gapRun * (s.profile.lower - min before.lo f.lo).toNat⟩
        else none
      | none => none
    let run := if s.ie.gapRun < 255 then s.ie.gapRun + 1 else s.ie.gapRun
    let plus (a b : Nat) : Nat := min 16777215 (a + b)
    let leg : Nat := match s.es.openLeg with | some l => l.number | none => 0
    let fresh (kind : EpisodeKind) : Episode :=
      ⟨kind, none, leg, n, none, 0, 0, 0, none, 0, 0, none, ⟨false, false, false, false, false, false⟩, false⟩
    let ends (e : Episode) : Episode := { e with finish := some (n - 1), count := n - 1 - e.start + 1 }
    let excursion : Option Episode := match figures with
      | none => s.es.openExcursion
      | some f =>
        if warm = 0 ∧ cold = 0 then none
        else match s.es.openExcursion with
          | none => some { fresh .excursion with warmPeak := f.hi, coldLow := f.lo, charges := some ⟨warm, cold⟩ }
          | some e => some { e with
              warmPeak := max e.warmPeak f.hi, coldLow := min e.coldLow f.lo
              charges := match e.charges with
                | some c => some ⟨plus c.warm warm, plus c.cold cold⟩
                | none => some ⟨plus 0 warm, plus 0 cold⟩ }
    let gap : Option Episode := match figures with
      | none => some (s.es.openGap.getD (fresh .gap))
      | some _ => none
    let open_ := s.es.openCover.getD (fresh .cover)
    let cover : Option Episode := match coverage with
      | .own => none
      | .air => some { open_ with airCount := plus open_.airCount 1 }
      | .witness => some { open_ with
          witnessCount := plus open_.witnessCount 1
          firstWitness := if open_.firstWitness = none then (closeEvidence acc s).witness else open_.firstWitness }
      | _ => s.es.openCover
    let added (l : Leg) : Leg := { l with
      own := if coverage = .own then plus l.own 1 else l.own
      air := if coverage = .air then plus l.air 1 else l.air
      witness := if coverage = .witness then plus l.witness 1 else l.witness
      gap := if coverage = .gap then plus l.gap 1 else l.gap
      figures := match figures, l.figures with
        | some f, some g => some ⟨max g.hi f.hi, min g.lo f.lo⟩
        | some f, none => some f
        | none, old => old
      charges := match bridge with
        | some b => ⟨plus (plus l.charges.warm warm) b.warm, plus (plus l.charges.cold cold) b.cold⟩
        | none => ⟨plus l.charges.warm warm, plus l.charges.cold cold⟩ }
    let ended : List Episode :=
      (if figures ≠ none ∧ warm = 0 ∧ cold = 0 then s.es.openExcursion.toList.map ends else [])
        ++ (if figures ≠ none then s.es.openGap.toList.map (fun e => { ends e with charges := bridge }) else [])
        ++ (if coverage = .own then s.es.openCover.toList.map ends else [])
    let brk : Episode := { fresh .brk with finish := some n, count := 1, causes := found }
    let s7 : State := { afterRecord partialClose acc s with es := { s.es with
      openExcursion := excursion, openGap := gap, openCover := cover, openLeg := s.es.openLeg.map added } }
    let offered := offerAll (ended.map QueueRecord.episode) s7
    let s8 := afterCustody partialClose acc s
    let breaks := s.cu.causes.nonempty = false ∧ found.nonempty = true
    t.es.openExcursion = excursion ∧ t.es.openGap = gap ∧ t.es.openCover = cover
    ∧ t.es.openLeg = s.es.openLeg.map added
    ∧ (¬ breaks → s8.es = offered.es)
    ∧ (breaks → s8.es = (offer (.episode brk) { offered with
        cu := { s.cu with custody := .broken, causes := found, breakInterval := some n } }).es)
    ∧ (s.es.criticalWaiting = false → s.es.state ≠ .idle ∨ s.sf.activity = .halted →
        s.es.queue.length + ended.length + (if breaks then 1 else 0) ≤ 4 →
        s8.es.queue = s.es.queue ++ (ended ++ if breaks then [brk] else []).map QueueRecord.episode)
    ∧ (s.cu.custody ≠ .broken → s.cu.causes.nonempty = false → found.nonempty = true →
      t.cu = { s.cu with custody := .broken, causes := found, breakInterval := some n })
    ∧ (s.cu.custody ≠ .broken → found.nonempty = false →
        t.cu = { s.cu with custody := if warm = 0 ∧ cold = 0 then .chilled else .excursion })
    ∧ (s.cu.custody = .broken → s.cu.causes.nonempty = true →
        t.cu = { s.cu with causes := s.cu.causes.union found })
    ∧ (found.peak = true ↔ ∃ f, figures = some f ∧ s.profile.peak ≤ f.hi)
    ∧ (found.warmBudget = true ↔ s.profile.warmBudget < t.ie.exposure.warm)
    ∧ (found.coldBudget = true ↔ s.profile.coldBudget < t.ie.exposure.cold)
    ∧ (found.gap = true ↔ figures = none ∧ s.ie.mark = false ∧ run = s.profile.gapAllowance + 1)
    ∧ found.precool = false ∧ found.powerLoss = false
end

