-- ==== Sys2Proof/Laws/Frames.lean ====
section
/-! SUPPORT. What each shared operation leaves unchanged: one lemma per operation, in the fields of State. -/

namespace Sys2Proof.Machine

/-- Noting touches the fault status alone. -/
@[simp] theorem note_frame (code : FaultCode) (at_ : Capture) (datum : List Byte) (s : State) :
    (note code at_ datum s).info = s.info ∧ (note code at_ datum s).cu = s.cu ∧
    (note code at_ datum s).mc = s.mc ∧ (note code at_ datum s).tb = s.tb ∧ (note code at_ datum s).ie = s.ie ∧
    (note code at_ datum s).nt = s.nt ∧ (note code at_ datum s).lc = s.lc ∧ (note code at_ datum s).es = s.es ∧
    (note code at_ datum s).nv = s.nv ∧ (note code at_ datum s).powered = s.powered ∧
    (note code at_ datum s).timers = s.timers ∧ (note code at_ datum s).inputs = s.inputs ∧
    (note code at_ datum s).pending = s.pending := by
  simp [note]

/-- Noting at this moment touches the fault status alone. -/
@[simp] theorem noteNow_frame (code : FaultCode) (datum : List Byte) (s : State) :
    (noteNow code datum s).info = s.info ∧ (noteNow code datum s).cu = s.cu ∧
    (noteNow code datum s).mc = s.mc ∧ (noteNow code datum s).tb = s.tb ∧ (noteNow code datum s).ie = s.ie ∧
    (noteNow code datum s).nt = s.nt ∧ (noteNow code datum s).lc = s.lc ∧ (noteNow code datum s).es = s.es ∧
    (noteNow code datum s).nv = s.nv ∧ (noteNow code datum s).powered = s.powered ∧
    (noteNow code datum s).timers = s.timers ∧ (noteNow code datum s).inputs = s.inputs ∧
    (noteNow code datum s).pending = s.pending := by
  simp [noteNow]

/-- Counting touches the link controller alone. -/
@[simp] theorem counting_frame (f : LinkCounters → LinkCounters) (s : State) :
    (counting f s).info = s.info ∧ (counting f s).cu = s.cu ∧ (counting f s).mc = s.mc ∧
    (counting f s).tb = s.tb ∧ (counting f s).ie = s.ie ∧ (counting f s).nt = s.nt ∧ (counting f s).es = s.es ∧
    (counting f s).nv = s.nv ∧ (counting f s).sf = s.sf ∧ (counting f s).powered = s.powered ∧
    (counting f s).timers = s.timers ∧ (counting f s).inputs = s.inputs ∧ (counting f s).pending = s.pending := by
  simp [counting]

/-- A drop counts and notes. -/
@[simp] theorem dropped_frame (slot : Slot) (cause : DropCause) (detail : List Byte) (s : State) :
    (dropped slot cause detail s).info = s.info ∧ (dropped slot cause detail s).cu = s.cu ∧
    (dropped slot cause detail s).mc = s.mc ∧ (dropped slot cause detail s).tb = s.tb ∧
    (dropped slot cause detail s).ie = s.ie ∧ (dropped slot cause detail s).nt = s.nt ∧
    (dropped slot cause detail s).es = s.es ∧ (dropped slot cause detail s).nv = s.nv ∧
    (dropped slot cause detail s).powered = s.powered ∧ (dropped slot cause detail s).timers = s.timers ∧
    (dropped slot cause detail s).inputs = s.inputs ∧ (dropped slot cause detail s).pending = s.pending := by
  cases slot <;> simp [dropped]

/-- An idle transmitter touches the link controller alone. -/
@[simp] theorem transmitterIdle_frame (s : State) :
    (transmitterIdle s).info = s.info ∧ (transmitterIdle s).cu = s.cu ∧ (transmitterIdle s).mc = s.mc ∧
    (transmitterIdle s).tb = s.tb ∧ (transmitterIdle s).ie = s.ie ∧ (transmitterIdle s).nt = s.nt ∧
    (transmitterIdle s).es = s.es ∧ (transmitterIdle s).nv = s.nv ∧ (transmitterIdle s).sf = s.sf ∧
    (transmitterIdle s).powered = s.powered ∧ (transmitterIdle s).timers = s.timers ∧
    (transmitterIdle s).inputs = s.inputs ∧ (transmitterIdle s).pending = s.pending := by
  simp [transmitterIdle]

/-- A transmission starts in the link controller and its timer. -/
@[simp] theorem startTransmission_frame (s : State) :
    (startTransmission s).info = s.info ∧ (startTransmission s).cu = s.cu ∧ (startTransmission s).mc = s.mc ∧
    (startTransmission s).tb = s.tb ∧ (startTransmission s).ie = s.ie ∧ (startTransmission s).nt = s.nt ∧
    (startTransmission s).es = s.es ∧ (startTransmission s).nv = s.nv ∧ (startTransmission s).sf = s.sf ∧
    (startTransmission s).powered = s.powered ∧ (startTransmission s).inputs = s.inputs ∧
    (startTransmission s).pending = s.pending := by
  unfold startTransmission; repeat' split
  all_goals simp

/-- Emptying a slot touches the link controller alone. -/
@[simp] theorem clearSlot_frame (slot : Slot) (s : State) :
    (clearSlot slot s).info = s.info ∧ (clearSlot slot s).cu = s.cu ∧ (clearSlot slot s).mc = s.mc ∧
    (clearSlot slot s).tb = s.tb ∧ (clearSlot slot s).ie = s.ie ∧ (clearSlot slot s).nt = s.nt ∧
    (clearSlot slot s).es = s.es ∧ (clearSlot slot s).nv = s.nv ∧ (clearSlot slot s).sf = s.sf ∧
    (clearSlot slot s).powered = s.powered ∧ (clearSlot slot s).timers = s.timers ∧
    (clearSlot slot s).inputs = s.inputs ∧ (clearSlot slot s).pending = s.pending := by
  cases slot <;> simp [clearSlot]

/-- A busy sense counts, and drops or backs off. -/
@[simp] theorem senseBusy_frame (s : State) :
    (senseBusy s).info = s.info ∧ (senseBusy s).cu = s.cu ∧ (senseBusy s).mc = s.mc ∧ (senseBusy s).tb = s.tb ∧
    (senseBusy s).ie = s.ie ∧ (senseBusy s).nt = s.nt ∧ (senseBusy s).es = s.es ∧ (senseBusy s).nv = s.nv ∧
    (senseBusy s).powered = s.powered ∧ (senseBusy s).inputs = s.inputs ∧ (senseBusy s).pending = s.pending := by
  unfold senseBusy; repeat' split
  all_goals simp

/-- A sense stays in the link controller, its timer and the fault status. -/
@[simp] theorem sense_frame (busy : Bool) (s : State) :
    (sense busy s).info = s.info ∧ (sense busy s).cu = s.cu ∧ (sense busy s).mc = s.mc ∧
    (sense busy s).tb = s.tb ∧ (sense busy s).ie = s.ie ∧ (sense busy s).nt = s.nt ∧ (sense busy s).es = s.es ∧
    (sense busy s).nv = s.nv ∧ (sense busy s).powered = s.powered ∧ (sense busy s).inputs = s.inputs ∧
    (sense busy s).pending = s.pending := by
  unfold sense; split <;> simp

/-- Serving the slots stays in the link controller, its timer and the fault status. -/
@[simp] theorem serve_frame (busy : Bool) (s : State) :
    (serve busy s).info = s.info ∧ (serve busy s).cu = s.cu ∧ (serve busy s).mc = s.mc ∧
    (serve busy s).tb = s.tb ∧ (serve busy s).ie = s.ie ∧ (serve busy s).nt = s.nt ∧ (serve busy s).es = s.es ∧
    (serve busy s).nv = s.nv ∧ (serve busy s).powered = s.powered ∧ (serve busy s).inputs = s.inputs ∧
    (serve busy s).pending = s.pending := by
  unfold serve; repeat' split
  all_goals simp

/-- So do the senses at the end of a backoff. -/
@[simp] theorem senseAgain_frame (busy busyNext : Bool) (s : State) :
    (senseAgain busy busyNext s).info = s.info ∧ (senseAgain busy busyNext s).cu = s.cu ∧
    (senseAgain busy busyNext s).mc = s.mc ∧ (senseAgain busy busyNext s).tb = s.tb ∧
    (senseAgain busy busyNext s).ie = s.ie ∧ (senseAgain busy busyNext s).nt = s.nt ∧
    (senseAgain busy busyNext s).es = s.es ∧ (senseAgain busy busyNext s).nv = s.nv ∧
    (senseAgain busy busyNext s).powered = s.powered ∧ (senseAgain busy busyNext s).inputs = s.inputs ∧
    (senseAgain busy busyNext s).pending = s.pending := by
  simp [senseAgain]

/-- Restarting the attempts touches the link controller alone. -/
@[simp] theorem restartAttempts_frame (slot : Slot) (s : State) :
    (restartAttempts slot s).info = s.info ∧ (restartAttempts slot s).cu = s.cu ∧
    (restartAttempts slot s).mc = s.mc ∧ (restartAttempts slot s).tb = s.tb ∧
    (restartAttempts slot s).ie = s.ie ∧ (restartAttempts slot s).nt = s.nt ∧
    (restartAttempts slot s).es = s.es ∧ (restartAttempts slot s).nv = s.nv ∧
    (restartAttempts slot s).sf = s.sf ∧ (restartAttempts slot s).powered = s.powered ∧
    (restartAttempts slot s).timers = s.timers ∧ (restartAttempts slot s).inputs = s.inputs ∧
    (restartAttempts slot s).pending = s.pending := by
  unfold restartAttempts; split <;> simp

/-- A reply offered stays in the link controller, its timer and the fault status. -/
@[simp] theorem placeReply_frame (r : Reply) (busy : Bool) (s : State) :
    (placeReply r busy s).info = s.info ∧ (placeReply r busy s).cu = s.cu ∧ (placeReply r busy s).mc = s.mc ∧
    (placeReply r busy s).tb = s.tb ∧ (placeReply r busy s).ie = s.ie ∧ (placeReply r busy s).nt = s.nt ∧
    (placeReply r busy s).es = s.es ∧ (placeReply r busy s).nv = s.nv ∧
    (placeReply r busy s).powered = s.powered ∧ (placeReply r busy s).inputs = s.inputs ∧
    (placeReply r busy s).pending = s.pending := by
  unfold placeReply; repeat' split
  all_goals simp

/-- An answer is a reply offered. -/
@[simp] theorem answer_frame (who : Asker) (status : Status) (payload : List Byte) (busy : Bool) (s : State) :
    (answer who status payload busy s).info = s.info ∧ (answer who status payload busy s).cu = s.cu ∧
    (answer who status payload busy s).mc = s.mc ∧ (answer who status payload busy s).tb = s.tb ∧
    (answer who status payload busy s).ie = s.ie ∧ (answer who status payload busy s).nt = s.nt ∧
    (answer who status payload busy s).es = s.es ∧ (answer who status payload busy s).nv = s.nv ∧
    (answer who status payload busy s).powered = s.powered ∧
    (answer who status payload busy s).inputs = s.inputs ∧
    (answer who status payload busy s).pending = s.pending := by
  simp [answer]

/-- A beacon request stays in the link controller, its timer and the fault status. -/
@[simp] theorem requestBeacon_frame (kind : BeaconKind) (busy : Bool) (s : State) :
    (requestBeacon kind busy s).info = s.info ∧ (requestBeacon kind busy s).cu = s.cu ∧
    (requestBeacon kind busy s).mc = s.mc ∧ (requestBeacon kind busy s).tb = s.tb ∧
    (requestBeacon kind busy s).ie = s.ie ∧ (requestBeacon kind busy s).nt = s.nt ∧
    (requestBeacon kind busy s).es = s.es ∧ (requestBeacon kind busy s).nv = s.nv ∧
    (requestBeacon kind busy s).powered = s.powered ∧ (requestBeacon kind busy s).inputs = s.inputs ∧
    (requestBeacon kind busy s).pending = s.pending := by
  unfold requestBeacon; repeat' split
  all_goals simp

/-- A beacon discarded stays in the link controller, its timer and the fault status. -/
@[simp] theorem discardBeacon_frame (busy : Bool) (s : State) :
    (discardBeacon busy s).info = s.info ∧ (discardBeacon busy s).cu = s.cu ∧
    (discardBeacon busy s).mc = s.mc ∧ (discardBeacon busy s).tb = s.tb ∧ (discardBeacon busy s).ie = s.ie ∧
    (discardBeacon busy s).nt = s.nt ∧ (discardBeacon busy s).es = s.es ∧ (discardBeacon busy s).nv = s.nv ∧
    (discardBeacon busy s).powered = s.powered ∧ (discardBeacon busy s).inputs = s.inputs ∧
    (discardBeacon busy s).pending = s.pending := by
  unfold discardBeacon; dsimp only; split <;> simp

/-- Switching the line off touches the link controller alone. -/
@[simp] theorem radioOff_frame (s : State) :
    (radioOff s).info = s.info ∧ (radioOff s).cu = s.cu ∧ (radioOff s).mc = s.mc ∧ (radioOff s).tb = s.tb ∧
    (radioOff s).ie = s.ie ∧ (radioOff s).nt = s.nt ∧ (radioOff s).es = s.es ∧ (radioOff s).nv = s.nv ∧
    (radioOff s).sf = s.sf ∧ (radioOff s).powered = s.powered ∧ (radioOff s).timers = s.timers ∧
    (radioOff s).inputs = s.inputs ∧ (radioOff s).pending = s.pending := by
  simp [radioOff]

/-- Switching the line on touches the link controller and its timer. -/
@[simp] theorem radioOn_frame (s : State) :
    (radioOn s).info = s.info ∧ (radioOn s).cu = s.cu ∧ (radioOn s).mc = s.mc ∧ (radioOn s).tb = s.tb ∧
    (radioOn s).ie = s.ie ∧ (radioOn s).nt = s.nt ∧ (radioOn s).es = s.es ∧ (radioOn s).nv = s.nv ∧
    (radioOn s).sf = s.sf ∧ (radioOn s).powered = s.powered ∧ (radioOn s).inputs = s.inputs ∧
    (radioOn s).pending = s.pending := by
  simp [radioOn]

/-- A burst start touches the converter, the LIVE records and a timer. -/
@[simp] theorem startBurst_frame (s : State) :
    (startBurst s).info = s.info ∧ (startBurst s).cu = s.cu ∧ (startBurst s).tb = s.tb ∧
    (startBurst s).ie = s.ie ∧ (startBurst s).nt = s.nt ∧ (startBurst s).es = s.es ∧ (startBurst s).nv = s.nv ∧
    (startBurst s).sf = s.sf ∧ (startBurst s).powered = s.powered ∧ (startBurst s).inputs = s.inputs ∧
    (startBurst s).pending = s.pending := by
  unfold startBurst; split <;> simp

/-- A trigger touches what a burst start touches. -/
@[simp] theorem trigger_frame (src : Source) (s : State) :
    (trigger src s).info = s.info ∧ (trigger src s).cu = s.cu ∧ (trigger src s).tb = s.tb ∧
    (trigger src s).ie = s.ie ∧ (trigger src s).nt = s.nt ∧ (trigger src s).es = s.es ∧
    (trigger src s).nv = s.nv ∧ (trigger src s).sf = s.sf ∧ (trigger src s).powered = s.powered ∧
    (trigger src s).inputs = s.inputs ∧ (trigger src s).pending = s.pending := by
  unfold trigger; split <;> simp

/-- A mode selection touches the timebase alone. -/
@[simp] theorem selectMode_frame (s : State) :
    (selectMode s).info = s.info ∧ (selectMode s).cu = s.cu ∧ (selectMode s).mc = s.mc ∧
    (selectMode s).ie = s.ie ∧ (selectMode s).nt = s.nt ∧ (selectMode s).lc = s.lc ∧ (selectMode s).es = s.es ∧
    (selectMode s).nv = s.nv ∧ (selectMode s).sf = s.sf ∧ (selectMode s).powered = s.powered ∧
    (selectMode s).timers = s.timers ∧ (selectMode s).inputs = s.inputs ∧ (selectMode s).pending = s.pending := by
  unfold selectMode; dsimp only; split <;> simp

/-- An extension touches the timebase alone. -/
@[simp] theorem extendFast_frame (s : State) :
    (extendFast s).info = s.info ∧ (extendFast s).cu = s.cu ∧ (extendFast s).mc = s.mc ∧
    (extendFast s).ie = s.ie ∧ (extendFast s).nt = s.nt ∧ (extendFast s).lc = s.lc ∧ (extendFast s).es = s.es ∧
    (extendFast s).nv = s.nv ∧ (extendFast s).sf = s.sf ∧ (extendFast s).powered = s.powered ∧
    (extendFast s).timers = s.timers ∧ (extendFast s).inputs = s.inputs ∧ (extendFast s).pending = s.pending := by
  unfold extendFast; split <;> simp

/-- Clearing fast-until touches the timebase alone. -/
@[simp] theorem clearFast_frame (s : State) :
    (clearFast s).info = s.info ∧ (clearFast s).cu = s.cu ∧ (clearFast s).mc = s.mc ∧ (clearFast s).ie = s.ie ∧
    (clearFast s).nt = s.nt ∧ (clearFast s).lc = s.lc ∧ (clearFast s).es = s.es ∧ (clearFast s).nv = s.nv ∧
    (clearFast s).sf = s.sf ∧ (clearFast s).powered = s.powered ∧ (clearFast s).timers = s.timers ∧
    (clearFast s).inputs = s.inputs ∧ (clearFast s).pending = s.pending := by
  simp [clearFast]

/-- Clearing the rise detector touches the timebase alone. -/
@[simp] theorem clearRise_frame (s : State) :
    (clearRise s).info = s.info ∧ (clearRise s).cu = s.cu ∧ (clearRise s).mc = s.mc ∧ (clearRise s).ie = s.ie ∧
    (clearRise s).nt = s.nt ∧ (clearRise s).lc = s.lc ∧ (clearRise s).es = s.es ∧ (clearRise s).nv = s.nv ∧
    (clearRise s).sf = s.sf ∧ (clearRise s).powered = s.powered ∧ (clearRise s).timers = s.timers ∧
    (clearRise s).inputs = s.inputs ∧ (clearRise s).pending = s.pending := by
  simp [clearRise]

/-- A fold touches the store and the fault status. -/
@[simp] theorem foldEpisode_frame (e : Episode) (s : State) :
    (foldEpisode e s).info = s.info ∧ (foldEpisode e s).cu = s.cu ∧ (foldEpisode e s).mc = s.mc ∧
    (foldEpisode e s).tb = s.tb ∧ (foldEpisode e s).ie = s.ie ∧ (foldEpisode e s).nt = s.nt ∧
    (foldEpisode e s).lc = s.lc ∧ (foldEpisode e s).nv = s.nv ∧ (foldEpisode e s).powered = s.powered ∧
    (foldEpisode e s).timers = s.timers ∧ (foldEpisode e s).inputs = s.inputs ∧
    (foldEpisode e s).pending = s.pending := by
  unfold foldEpisode; dsimp only; split <;> simp

/-- A write starts in the store and its timer. -/
@[simp] theorem writing_frame (q : List QueueRecord) (s : State) :
    (writing q s).info = s.info ∧ (writing q s).cu = s.cu ∧ (writing q s).mc = s.mc ∧ (writing q s).tb = s.tb ∧
    (writing q s).ie = s.ie ∧ (writing q s).nt = s.nt ∧ (writing q s).lc = s.lc ∧ (writing q s).nv = s.nv ∧
    (writing q s).sf = s.sf ∧ (writing q s).powered = s.powered ∧ (writing q s).inputs = s.inputs ∧
    (writing q s).pending = s.pending := by
  simp [writing]

/-- Taking up a queue touches the store, its areas, its timer and the fault status. -/
@[simp] theorem writeHead_frame (q : List QueueRecord) (s : State) :
    (writeHead q s).info = s.info ∧ (writeHead q s).cu = s.cu ∧ (writeHead q s).mc = s.mc ∧
    (writeHead q s).tb = s.tb ∧ (writeHead q s).ie = s.ie ∧ (writeHead q s).nt = s.nt ∧
    (writeHead q s).lc = s.lc ∧ (writeHead q s).powered = s.powered ∧ (writeHead q s).inputs = s.inputs ∧
    (writeHead q s).pending = s.pending := by
  induction q generalizing s with
  | nil => simp [writeHead]
  | cons r rest ih => cases r <;> simp [writeHead] <;> split <;> simp [ih]

/-- So does starting writes. -/
@[simp] theorem startWrites_frame (s : State) :
    (startWrites s).info = s.info ∧ (startWrites s).cu = s.cu ∧ (startWrites s).mc = s.mc ∧
    (startWrites s).tb = s.tb ∧ (startWrites s).ie = s.ie ∧ (startWrites s).nt = s.nt ∧
    (startWrites s).lc = s.lc ∧ (startWrites s).powered = s.powered ∧ (startWrites s).inputs = s.inputs ∧
    (startWrites s).pending = s.pending := by
  unfold startWrites; split <;> simp

/-- So does joining the queue. -/
@[simp] theorem joinQueue_frame (r : QueueRecord) (s : State) :
    (joinQueue r s).info = s.info ∧ (joinQueue r s).cu = s.cu ∧ (joinQueue r s).mc = s.mc ∧
    (joinQueue r s).tb = s.tb ∧ (joinQueue r s).ie = s.ie ∧ (joinQueue r s).nt = s.nt ∧
    (joinQueue r s).lc = s.lc ∧ (joinQueue r s).powered = s.powered ∧ (joinQueue r s).inputs = s.inputs ∧
    (joinQueue r s).pending = s.pending := by
  simp [joinQueue]

/-- So does the CRITICAL checkpoint that waits. -/
@[simp] theorem admitCritical_frame (s : State) :
    (admitCritical s).info = s.info ∧ (admitCritical s).cu = s.cu ∧ (admitCritical s).mc = s.mc ∧
    (admitCritical s).tb = s.tb ∧ (admitCritical s).ie = s.ie ∧ (admitCritical s).nt = s.nt ∧
    (admitCritical s).lc = s.lc ∧ (admitCritical s).powered = s.powered ∧ (admitCritical s).inputs = s.inputs ∧
    (admitCritical s).pending = s.pending := by
  unfold admitCritical; dsimp only; repeat' split
  all_goals simp

/-- A refusal notes, and folds an episode. -/
@[simp] theorem refuseRecord_frame (r : QueueRecord) (s : State) :
    (refuseRecord r s).info = s.info ∧ (refuseRecord r s).cu = s.cu ∧ (refuseRecord r s).mc = s.mc ∧
    (refuseRecord r s).tb = s.tb ∧ (refuseRecord r s).ie = s.ie ∧ (refuseRecord r s).nt = s.nt ∧
    (refuseRecord r s).lc = s.lc ∧ (refuseRecord r s).nv = s.nv ∧ (refuseRecord r s).powered = s.powered ∧
    (refuseRecord r s).timers = s.timers ∧ (refuseRecord r s).inputs = s.inputs ∧
    (refuseRecord r s).pending = s.pending := by
  cases r <;> simp [refuseRecord]

/-- An offer touches the store, its areas, its timer and the fault status. -/
@[simp] theorem offer_frame (r : QueueRecord) (s : State) :
    (offer r s).info = s.info ∧ (offer r s).cu = s.cu ∧ (offer r s).mc = s.mc ∧ (offer r s).tb = s.tb ∧
    (offer r s).ie = s.ie ∧ (offer r s).nt = s.nt ∧ (offer r s).lc = s.lc ∧ (offer r s).powered = s.powered ∧
    (offer r s).inputs = s.inputs ∧ (offer r s).pending = s.pending := by
  unfold offer; dsimp only; repeat' split
  all_goals simp

/-- So do offers in turn. -/
@[simp] theorem offerAll_frame (rs : List QueueRecord) (s : State) :
    (offerAll rs s).info = s.info ∧ (offerAll rs s).cu = s.cu ∧ (offerAll rs s).mc = s.mc ∧
    (offerAll rs s).tb = s.tb ∧ (offerAll rs s).ie = s.ie ∧ (offerAll rs s).nt = s.nt ∧
    (offerAll rs s).lc = s.lc ∧ (offerAll rs s).powered = s.powered ∧ (offerAll rs s).inputs = s.inputs ∧
    (offerAll rs s).pending = s.pending := by
  induction rs generalizing s <;> simp_all [offerAll]

/-- So does the next write. -/
@[simp] theorem nextWrite_frame (s : State) :
    (nextWrite s).info = s.info ∧ (nextWrite s).cu = s.cu ∧ (nextWrite s).mc = s.mc ∧ (nextWrite s).tb = s.tb ∧
    (nextWrite s).ie = s.ie ∧ (nextWrite s).nt = s.nt ∧ (nextWrite s).lc = s.lc ∧
    (nextWrite s).powered = s.powered ∧ (nextWrite s).inputs = s.inputs ∧ (nextWrite s).pending = s.pending := by
  unfold nextWrite; split <;> simp

end Sys2Proof.Machine
end

