-- ==== Sys2Proof/Laws/Meanings.lean ====
section
/-! SUPPORT. What each meaning, and each operation that a meaning is made of, leaves unchanged in the fields of State. -/

namespace Sys2Proof.Machine

/-- Stage 2 touches the consensus run and may note. -/
@[simp] theorem applyConsensus_frame (ev : Evidence) (c : Consensus) (s : State) :
    (applyConsensus ev c s).info = s.info ∧ (applyConsensus ev c s).cu = s.cu ∧
    (applyConsensus ev c s).mc = s.mc ∧ (applyConsensus ev c s).tb = s.tb ∧ (applyConsensus ev c s).nt = s.nt ∧
    (applyConsensus ev c s).lc = s.lc ∧ (applyConsensus ev c s).es = s.es ∧ (applyConsensus ev c s).nv = s.nv ∧
    (applyConsensus ev c s).powered = s.powered ∧ (applyConsensus ev c s).timers = s.timers ∧
    (applyConsensus ev c s).inputs = s.inputs ∧ (applyConsensus ev c s).pending = s.pending := by
  unfold applyConsensus; dsimp only; repeat' split
  all_goals simp

/-- Causes entering touch custody and may offer a BREAK episode. -/
@[simp] theorem addCauses_frame (new : Causes) (n : Nat) (s : State) :
    (addCauses new n s).info = s.info ∧ (addCauses new n s).mc = s.mc ∧ (addCauses new n s).tb = s.tb ∧
    (addCauses new n s).ie = s.ie ∧ (addCauses new n s).nt = s.nt ∧ (addCauses new n s).lc = s.lc ∧
    (addCauses new n s).powered = s.powered ∧ (addCauses new n s).inputs = s.inputs ∧
    (addCauses new n s).pending = s.pending := by
  unfold addCauses; dsimp only; repeat' split
  all_goals simp

/-- Stage 8 in PRECOOL. -/
@[simp] theorem precoolStage_frame (p b : Bool) (n : Nat) (s : State) :
    (precoolStage p b n s).info = s.info ∧ (precoolStage p b n s).mc = s.mc ∧
    (precoolStage p b n s).tb = s.tb ∧ (precoolStage p b n s).nt = s.nt ∧ (precoolStage p b n s).lc = s.lc ∧
    (precoolStage p b n s).powered = s.powered ∧ (precoolStage p b n s).inputs = s.inputs ∧
    (precoolStage p b n s).pending = s.pending := by
  unfold precoolStage; dsimp only; repeat' split
  all_goals simp

/-- Stage 8 in custody. -/
@[simp] theorem custodyStage_frame (own : Charges) (found : Causes) (n : Nat) (s : State) :
    (custodyStage own found n s).info = s.info ∧ (custodyStage own found n s).mc = s.mc ∧
    (custodyStage own found n s).tb = s.tb ∧ (custodyStage own found n s).ie = s.ie ∧
    (custodyStage own found n s).nt = s.nt ∧ (custodyStage own found n s).lc = s.lc ∧
    (custodyStage own found n s).powered = s.powered ∧ (custodyStage own found n s).inputs = s.inputs ∧
    (custodyStage own found n s).pending = s.pending := by
  unfold custodyStage; dsimp only; repeat' split
  all_goals simp

/-- Stage 7 touches the store. -/
@[simp] theorem episodeStage_frame (n : Nat) (ev : Evidence) (c : Charged) (s : State) :
    (episodeStage n ev c s).info = s.info ∧ (episodeStage n ev c s).cu = s.cu ∧
    (episodeStage n ev c s).mc = s.mc ∧ (episodeStage n ev c s).tb = s.tb ∧ (episodeStage n ev c s).ie = s.ie ∧
    (episodeStage n ev c s).nt = s.nt ∧ (episodeStage n ev c s).lc = s.lc ∧
    (episodeStage n ev c s).powered = s.powered ∧ (episodeStage n ev c s).inputs = s.inputs ∧
    (episodeStage n ev c s).pending = s.pending := by
  simp [episodeStage]

/-- Stage 9 hands on to the store, the link controller and the table. -/
@[simp] theorem handOn_frame (p : Bool) (acc : Accumulator) (ev : Evidence) (raised : Bool) (s : State) :
    (handOn p acc ev raised s).info = s.info ∧ (handOn p acc ev raised s).cu = s.cu ∧
    (handOn p acc ev raised s).mc = s.mc ∧ (handOn p acc ev raised s).tb = s.tb ∧
    (handOn p acc ev raised s).ie = s.ie ∧ (handOn p acc ev raised s).powered = s.powered ∧
    (handOn p acc ev raised s).inputs = s.inputs ∧ (handOn p acc ev raised s).pending = s.pending := by
  unfold handOn; dsimp only; repeat' split
  all_goals simp

/-- So does stage 2 of a close. -/
@[simp] theorem afterConsensus_frame (acc : Accumulator) (s : State) :
    (afterConsensus acc s).info = s.info ∧ (afterConsensus acc s).cu = s.cu ∧ (afterConsensus acc s).mc = s.mc ∧
    (afterConsensus acc s).tb = s.tb ∧ (afterConsensus acc s).nt = s.nt ∧ (afterConsensus acc s).lc = s.lc ∧
    (afterConsensus acc s).es = s.es ∧ (afterConsensus acc s).nv = s.nv ∧
    (afterConsensus acc s).powered = s.powered ∧ (afterConsensus acc s).timers = s.timers ∧
    (afterConsensus acc s).inputs = s.inputs ∧ (afterConsensus acc s).pending = s.pending := by
  simp [afterConsensus]

/-- Stages 3 to 6 touch the exposure engine alone. -/
@[simp] theorem afterRecord_frame (p : Bool) (acc : Accumulator) (s : State) :
    (afterRecord p acc s).info = s.info ∧ (afterRecord p acc s).cu = s.cu ∧ (afterRecord p acc s).mc = s.mc ∧
    (afterRecord p acc s).tb = s.tb ∧ (afterRecord p acc s).nt = s.nt ∧ (afterRecord p acc s).lc = s.lc ∧
    (afterRecord p acc s).es = s.es ∧ (afterRecord p acc s).nv = s.nv ∧
    (afterRecord p acc s).sf = (afterConsensus acc s).sf ∧
    (afterRecord p acc s).powered = s.powered ∧ (afterRecord p acc s).timers = s.timers ∧
    (afterRecord p acc s).inputs = s.inputs ∧ (afterRecord p acc s).pending = s.pending := by
  simp [afterRecord]

/-- Stage 7 of a close. -/
@[simp] theorem afterEpisodes_frame (p : Bool) (acc : Accumulator) (s : State) :
    (afterEpisodes p acc s).info = s.info ∧ (afterEpisodes p acc s).cu = s.cu ∧
    (afterEpisodes p acc s).mc = s.mc ∧ (afterEpisodes p acc s).tb = s.tb ∧
    (afterEpisodes p acc s).ie = (afterRecord p acc s).ie ∧ (afterEpisodes p acc s).nt = s.nt ∧
    (afterEpisodes p acc s).lc = s.lc ∧ (afterEpisodes p acc s).powered = s.powered ∧
    (afterEpisodes p acc s).inputs = s.inputs ∧ (afterEpisodes p acc s).pending = s.pending := by
  unfold afterEpisodes; split <;> simp

/-- Stage 8 of a close. -/
@[simp] theorem afterCustody_frame (p : Bool) (acc : Accumulator) (s : State) :
    (afterCustody p acc s).info = s.info ∧ (afterCustody p acc s).mc = s.mc ∧ (afterCustody p acc s).tb = s.tb ∧
    (afterCustody p acc s).nt = s.nt ∧ (afterCustody p acc s).lc = s.lc ∧
    (afterCustody p acc s).powered = s.powered ∧ (afterCustody p acc s).inputs = s.inputs ∧
    (afterCustody p acc s).pending = s.pending := by
  unfold afterCustody; dsimp only; split <;> simp

/-- A close touches custody, the exposure engine, the beacon content, the table and the store. -/
@[simp] theorem closeInterval_frame (p : Bool) (acc : Accumulator) (s : State) :
    (closeInterval p acc s).info = s.info ∧ (closeInterval p acc s).mc = s.mc ∧
    (closeInterval p acc s).tb = s.tb ∧ (closeInterval p acc s).powered = s.powered ∧
    (closeInterval p acc s).inputs = s.inputs ∧ (closeInterval p acc s).pending = s.pending := by
  simp [closeInterval]

/-- So does a deferred close. -/
@[simp] theorem runDeferred_frame (s : State) :
    (runDeferred s).info = s.info ∧ (runDeferred s).mc = s.mc ∧ (runDeferred s).tb = s.tb ∧
    (runDeferred s).powered = s.powered ∧ (runDeferred s).inputs = s.inputs ∧
    (runDeferred s).pending = s.pending := by
  unfold runDeferred; dsimp only; repeat' split
  all_goals simp

/-- So does the partial close. -/
@[simp] theorem partialCloseNow_frame (s : State) :
    (partialCloseNow s).info = s.info ∧ (partialCloseNow s).mc = s.mc ∧ (partialCloseNow s).tb = s.tb ∧
    (partialCloseNow s).powered = s.powered ∧ (partialCloseNow s).inputs = s.inputs ∧
    (partialCloseNow s).pending = s.pending := by
  unfold partialCloseNow; dsimp only; repeat' split
  all_goals simp

/-- So does a boundary passed on. -/
@[simp] theorem boundaryToExposure_frame (s : State) :
    (boundaryToExposure s).info = s.info ∧ (boundaryToExposure s).mc = s.mc ∧
    (boundaryToExposure s).tb = s.tb ∧ (boundaryToExposure s).powered = s.powered ∧
    (boundaryToExposure s).inputs = s.inputs ∧ (boundaryToExposure s).pending = s.pending := by
  unfold boundaryToExposure; dsimp only; repeat' split
  all_goals simp

/-- Acceptance of COMMISSION touches custody and the store. -/
@[simp] theorem acceptCommission_frame (who : Asker) (r : ProfileRecord) (s : State) :
    (acceptCommission who r s).info = s.info ∧ (acceptCommission who r s).mc = s.mc ∧
    (acceptCommission who r s).tb = s.tb ∧ (acceptCommission who r s).ie = s.ie ∧
    (acceptCommission who r s).nt = s.nt ∧ (acceptCommission who r s).lc = s.lc ∧
    (acceptCommission who r s).powered = s.powered ∧ (acceptCommission who r s).inputs = s.inputs ∧
    (acceptCommission who r s).pending = s.pending := by
  simp [acceptCommission]

/-- COMMISSION. -/
@[simp] theorem takeCommission_frame (who : Asker) (payload : List Byte) (busy : Bool) (s : State) :
    (takeCommission who payload busy s).info = s.info ∧ (takeCommission who payload busy s).mc = s.mc ∧
    (takeCommission who payload busy s).tb = s.tb ∧ (takeCommission who payload busy s).ie = s.ie ∧
    (takeCommission who payload busy s).nt = s.nt ∧ (takeCommission who payload busy s).powered = s.powered ∧
    (takeCommission who payload busy s).inputs = s.inputs ∧
    (takeCommission who payload busy s).pending = s.pending := by
  unfold takeCommission; repeat' split
  all_goals simp

/-- The next leg touches the store alone. -/
@[simp] theorem openNextLeg_frame (l : Leg) (a b : Nat) (r : Serial) (s : State) :
    (openNextLeg l a b r s).info = s.info ∧ (openNextLeg l a b r s).cu = s.cu ∧
    (openNextLeg l a b r s).mc = s.mc ∧ (openNextLeg l a b r s).tb = s.tb ∧ (openNextLeg l a b r s).ie = s.ie ∧
    (openNextLeg l a b r s).nt = s.nt ∧ (openNextLeg l a b r s).lc = s.lc ∧
    (openNextLeg l a b r s).powered = s.powered ∧ (openNextLeg l a b r s).inputs = s.inputs ∧
    (openNextLeg l a b r s).pending = s.pending := by
  simp [openNextLeg]

theorem judgeHandover_frame (l : Leg) (a b e : Nat) (r : Serial) (s : State) :
    (judgeHandover l a b e r s).2 = s ∨ (judgeHandover l a b e r s).2 = openNextLeg l a b r s := by
  unfold judgeHandover; repeat' split
  all_goals simp

/-- HANDOVER. -/
@[simp] theorem takeHandover_frame (who : Asker) (payload : List Byte) (busy : Bool) (s : State) :
    (takeHandover who payload busy s).info = s.info ∧ (takeHandover who payload busy s).cu = s.cu ∧
    (takeHandover who payload busy s).mc = s.mc ∧ (takeHandover who payload busy s).tb = s.tb ∧
    (takeHandover who payload busy s).ie = s.ie ∧ (takeHandover who payload busy s).nt = s.nt ∧
    (takeHandover who payload busy s).powered = s.powered ∧
    (takeHandover who payload busy s).inputs = s.inputs ∧ (takeHandover who payload busy s).pending = s.pending := by
  unfold takeHandover; dsimp only; repeat' split
  case h_1 l _ =>
    rcases judgeHandover_frame l (fieldAt payload 0 2) (fieldAt payload 2 2) (fieldAt payload 4 1) who.reader s with h | h <;>
      simp [h]
  all_goals simp

/-- Clearing the detail touches the fault status alone. -/
@[simp] theorem clearFaultDetail_frame (s : State) :
    (clearFaultDetail s).info = s.info ∧ (clearFaultDetail s).cu = s.cu ∧ (clearFaultDetail s).mc = s.mc ∧
    (clearFaultDetail s).tb = s.tb ∧ (clearFaultDetail s).ie = s.ie ∧ (clearFaultDetail s).nt = s.nt ∧
    (clearFaultDetail s).lc = s.lc ∧ (clearFaultDetail s).es = s.es ∧ (clearFaultDetail s).nv = s.nv ∧
    (clearFaultDetail s).powered = s.powered ∧ (clearFaultDetail s).timers = s.timers ∧
    (clearFaultDetail s).inputs = s.inputs ∧ (clearFaultDetail s).pending = s.pending := by
  simp [clearFaultDetail]

/-- A page is a reply offered. -/
@[simp] theorem answerPage_frame (who : Asker) (page : Nat) (payload : List Byte) (busy : Bool) (s : State) :
    (answerPage who page payload busy s).info = s.info ∧ (answerPage who page payload busy s).cu = s.cu ∧
    (answerPage who page payload busy s).mc = s.mc ∧ (answerPage who page payload busy s).tb = s.tb ∧
    (answerPage who page payload busy s).ie = s.ie ∧ (answerPage who page payload busy s).nt = s.nt ∧
    (answerPage who page payload busy s).es = s.es ∧ (answerPage who page payload busy s).nv = s.nv ∧
    (answerPage who page payload busy s).powered = s.powered ∧
    (answerPage who page payload busy s).inputs = s.inputs ∧
    (answerPage who page payload busy s).pending = s.pending := by
  simp [answerPage]

/-- So is an indexed page. -/
@[simp] theorem answerIndexed_frame (who : Asker) (page : Nat) (payload : Option (List Byte)) (busy : Bool) (s : State) :
    (answerIndexed who page payload busy s).info = s.info ∧ (answerIndexed who page payload busy s).cu = s.cu ∧
    (answerIndexed who page payload busy s).mc = s.mc ∧ (answerIndexed who page payload busy s).tb = s.tb ∧
    (answerIndexed who page payload busy s).ie = s.ie ∧ (answerIndexed who page payload busy s).nt = s.nt ∧
    (answerIndexed who page payload busy s).es = s.es ∧ (answerIndexed who page payload busy s).nv = s.nv ∧
    (answerIndexed who page payload busy s).powered = s.powered ∧
    (answerIndexed who page payload busy s).inputs = s.inputs ∧
    (answerIndexed who page payload busy s).pending = s.pending := by
  cases payload <;> simp [answerIndexed]

/-- The FAULTS page clears the detail and is offered. -/
@[simp] theorem answerFaults_frame (who : Asker) (busy : Bool) (s : State) :
    (answerFaults who busy s).info = s.info ∧ (answerFaults who busy s).cu = s.cu ∧
    (answerFaults who busy s).mc = s.mc ∧ (answerFaults who busy s).tb = s.tb ∧
    (answerFaults who busy s).ie = s.ie ∧ (answerFaults who busy s).nt = s.nt ∧
    (answerFaults who busy s).es = s.es ∧ (answerFaults who busy s).nv = s.nv ∧
    (answerFaults who busy s).powered = s.powered ∧ (answerFaults who busy s).inputs = s.inputs ∧
    (answerFaults who busy s).pending = s.pending := by
  simp [answerFaults]

/-- QUERY touches the link controller, its timer and the fault status. -/
@[simp] theorem takeQuery_frame (who : Asker) (page index : Nat) (busy : Bool) (s : State) :
    (takeQuery who page index busy s).info = s.info ∧ (takeQuery who page index busy s).cu = s.cu ∧
    (takeQuery who page index busy s).mc = s.mc ∧ (takeQuery who page index busy s).tb = s.tb ∧
    (takeQuery who page index busy s).ie = s.ie ∧ (takeQuery who page index busy s).nt = s.nt ∧
    (takeQuery who page index busy s).es = s.es ∧ (takeQuery who page index busy s).nv = s.nv ∧
    (takeQuery who page index busy s).powered = s.powered ∧
    (takeQuery who page index busy s).inputs = s.inputs ∧ (takeQuery who page index busy s).pending = s.pending := by
  unfold takeQuery inCustody; repeat' split
  all_goals simp

/-- A LIVE record kept. -/
@[simp] theorem recordLive_frame (who : Asker) (s : State) :
    (recordLive who s).info = s.info ∧ (recordLive who s).cu = s.cu ∧ (recordLive who s).mc = s.mc ∧
    (recordLive who s).tb = s.tb ∧ (recordLive who s).ie = s.ie ∧ (recordLive who s).nt = s.nt ∧
    (recordLive who s).es = s.es ∧ (recordLive who s).nv = s.nv ∧ (recordLive who s).powered = s.powered ∧
    (recordLive who s).timers = s.timers ∧ (recordLive who s).inputs = s.inputs ∧
    (recordLive who s).pending = s.pending := by
  unfold recordLive; dsimp only; repeat' split
  all_goals simp

/-- LIVE. -/
@[simp] theorem takeLive_frame (who : Asker) (busy : Bool) (s : State) :
    (takeLive who busy s).info = s.info ∧ (takeLive who busy s).cu = s.cu ∧ (takeLive who busy s).tb = s.tb ∧
    (takeLive who busy s).ie = s.ie ∧ (takeLive who busy s).nt = s.nt ∧ (takeLive who busy s).es = s.es ∧
    (takeLive who busy s).nv = s.nv ∧ (takeLive who busy s).powered = s.powered ∧
    (takeLive who busy s).inputs = s.inputs ∧ (takeLive who busy s).pending = s.pending := by
  unfold takeLive; repeat' split
  all_goals simp

/-- The LIVE records at an abort. -/
@[simp] theorem abortLive_frame (busy : Bool) (s : State) :
    (abortLive busy s).info = s.info ∧ (abortLive busy s).cu = s.cu ∧ (abortLive busy s).mc = s.mc ∧
    (abortLive busy s).tb = s.tb ∧ (abortLive busy s).ie = s.ie ∧ (abortLive busy s).nt = s.nt ∧
    (abortLive busy s).es = s.es ∧ (abortLive busy s).nv = s.nv ∧ (abortLive busy s).powered = s.powered ∧
    (abortLive busy s).inputs = s.inputs ∧ (abortLive busy s).pending = s.pending := by
  unfold abortLive; dsimp only; repeat' split
  all_goals simp

/-- An abort. -/
@[simp] theorem abortBurst_frame (busy : Bool) (s : State) :
    (abortBurst busy s).info = s.info ∧ (abortBurst busy s).cu = s.cu ∧ (abortBurst busy s).tb = s.tb ∧
    (abortBurst busy s).ie = s.ie ∧ (abortBurst busy s).nt = s.nt ∧ (abortBurst busy s).es = s.es ∧
    (abortBurst busy s).nv = s.nv ∧ (abortBurst busy s).powered = s.powered ∧
    (abortBurst busy s).inputs = s.inputs ∧ (abortBurst busy s).pending = s.pending := by
  unfold abortBurst; dsimp only; repeat' split
  all_goals simp

/-- The entry to CLOSING. -/
@[simp] theorem enterClosing_frame (who : Asker) (busy : Bool) (s : State) :
    (enterClosing who busy s).info = s.info ∧ (enterClosing who busy s).mc = s.mc ∧
    (enterClosing who busy s).tb = s.tb ∧ (enterClosing who busy s).ie = s.ie ∧
    (enterClosing who busy s).nv = s.nv ∧ (enterClosing who busy s).powered = s.powered ∧
    (enterClosing who busy s).inputs = s.inputs ∧ (enterClosing who busy s).pending = s.pending := by
  simp [enterClosing]

/-- The acceptance of CLOSE. -/
@[simp] theorem acceptClose_frame (who : Asker) (busy : Bool) (s : State) :
    (acceptClose who busy s).info = s.info ∧ (acceptClose who busy s).tb = s.tb ∧
    (acceptClose who busy s).powered = s.powered ∧ (acceptClose who busy s).inputs = s.inputs ∧
    (acceptClose who busy s).pending = s.pending := by
  simp [acceptClose]

/-- CLOSE. -/
@[simp] theorem takeClose_frame (who : Asker) (busy : Bool) (s : State) :
    (takeClose who busy s).info = s.info ∧ (takeClose who busy s).tb = s.tb ∧
    (takeClose who busy s).powered = s.powered ∧ (takeClose who busy s).inputs = s.inputs ∧
    (takeClose who busy s).pending = s.pending := by
  unfold takeClose; repeat' split
  all_goals simp

/-- The start of an erase. -/
@[simp] theorem startErase_frame (who : Asker) (s : State) :
    (startErase who s).info = s.info ∧ (startErase who s).mc = s.mc ∧ (startErase who s).tb = s.tb ∧
    (startErase who s).ie = s.ie ∧ (startErase who s).nt = s.nt ∧ (startErase who s).lc = s.lc ∧
    (startErase who s).sf = s.sf ∧ (startErase who s).powered = s.powered ∧
    (startErase who s).inputs = s.inputs ∧ (startErase who s).pending = s.pending := by
  simp [startErase]

/-- ERASE. -/
@[simp] theorem takeErase_frame (who : Asker) (busy : Bool) (s : State) :
    (takeErase who busy s).info = s.info ∧ (takeErase who busy s).mc = s.mc ∧
    (takeErase who busy s).tb = s.tb ∧ (takeErase who busy s).ie = s.ie ∧ (takeErase who busy s).nt = s.nt ∧
    (takeErase who busy s).powered = s.powered ∧ (takeErase who busy s).inputs = s.inputs ∧
    (takeErase who busy s).pending = s.pending := by
  unfold takeErase; repeat' split
  all_goals simp

/-- A command examined. -/
@[simp] theorem examineCommand_frame (kind : CommandKind) (f : CommandFrame) (busy : Bool) (s : State) :
    (examineCommand kind f busy s).info = s.info ∧ (examineCommand kind f busy s).tb = s.tb ∧
    (examineCommand kind f busy s).powered = s.powered ∧ (examineCommand kind f busy s).inputs = s.inputs ∧
    (examineCommand kind f busy s).pending = s.pending := by
  unfold examineCommand dispatchCommand; dsimp only; repeat' split
  all_goals simp

/-- A frame counted. -/
@[simp] theorem countGood_frame (s : State) :
    (countGood s).info = s.info ∧ (countGood s).cu = s.cu ∧ (countGood s).mc = s.mc ∧ (countGood s).tb = s.tb ∧
    (countGood s).ie = s.ie ∧ (countGood s).nt = s.nt ∧ (countGood s).es = s.es ∧ (countGood s).nv = s.nv ∧
    (countGood s).sf = s.sf ∧ (countGood s).powered = s.powered ∧ (countGood s).timers = s.timers ∧
    (countGood s).inputs = s.inputs ∧ (countGood s).pending = s.pending := by
  simp [countGood]

/-- A command received. -/
@[simp] theorem receiveCommand_frame (kind : CommandKind) (f : CommandFrame) (busy : Bool) (s : State) :
    (receiveCommand kind f busy s).info = s.info ∧ (receiveCommand kind f busy s).tb = s.tb ∧
    (receiveCommand kind f busy s).powered = s.powered ∧ (receiveCommand kind f busy s).inputs = s.inputs ∧
    (receiveCommand kind f busy s).pending = s.pending := by
  unfold receiveCommand delivered; split <;> simp

/-- A burst notes its faults. -/
@[simp] theorem noteAll_frame (at_ : Capture) (ns : List SensorNote) (s : State) :
    (noteAll at_ ns s).info = s.info ∧ (noteAll at_ ns s).cu = s.cu ∧ (noteAll at_ ns s).mc = s.mc ∧
    (noteAll at_ ns s).tb = s.tb ∧ (noteAll at_ ns s).ie = s.ie ∧ (noteAll at_ ns s).nt = s.nt ∧
    (noteAll at_ ns s).lc = s.lc ∧ (noteAll at_ ns s).es = s.es ∧ (noteAll at_ ns s).nv = s.nv ∧
    (noteAll at_ ns s).powered = s.powered ∧ (noteAll at_ ns s).timers = s.timers ∧
    (noteAll at_ ns s).inputs = s.inputs ∧ (noteAll at_ ns s).pending = s.pending := by
  induction ns generalizing s <;> simp_all [noteAll]

/-- A rise event. -/
@[simp] theorem riseEvent_frame (busy : Bool) (n : Nat) (s : State) :
    (riseEvent busy n s).info = s.info ∧ (riseEvent busy n s).cu = s.cu ∧ (riseEvent busy n s).mc = s.mc ∧
    (riseEvent busy n s).ie = s.ie ∧ (riseEvent busy n s).nt = s.nt ∧ (riseEvent busy n s).es = s.es ∧
    (riseEvent busy n s).nv = s.nv ∧ (riseEvent busy n s).powered = s.powered ∧
    (riseEvent busy n s).inputs = s.inputs ∧ (riseEvent busy n s).pending = s.pending := by
  unfold riseEvent; dsimp only; repeat' split
  all_goals simp

/-- The rise detector. -/
@[simp] theorem riseDetect_frame (busy : Bool) (r : BurstResult) (s : State) :
    (riseDetect busy r s).info = s.info ∧ (riseDetect busy r s).cu = s.cu ∧ (riseDetect busy r s).mc = s.mc ∧
    (riseDetect busy r s).ie = s.ie ∧ (riseDetect busy r s).nt = s.nt ∧ (riseDetect busy r s).es = s.es ∧
    (riseDetect busy r s).nv = s.nv ∧ (riseDetect busy r s).powered = s.powered ∧
    (riseDetect busy r s).inputs = s.inputs ∧ (riseDetect busy r s).pending = s.pending := by
  unfold riseDetect; dsimp only; repeat' split
  all_goals simp

/-- A result handed to IE. -/
@[simp] theorem deliverToExposure_frame (r : BurstResult) (s : State) :
    (deliverToExposure r s).info = s.info ∧ (deliverToExposure r s).mc = s.mc ∧
    (deliverToExposure r s).tb = s.tb ∧ (deliverToExposure r s).powered = s.powered ∧
    (deliverToExposure r s).inputs = s.inputs ∧ (deliverToExposure r s).pending = s.pending := by
  unfold deliverToExposure; dsimp only; repeat' split
  all_goals simp

/-- A LIVE answered. -/
@[simp] theorem answerLive_frame (busy : Bool) (r : BurstResult) (s : State) :
    (answerLive busy r s).info = s.info ∧ (answerLive busy r s).cu = s.cu ∧ (answerLive busy r s).mc = s.mc ∧
    (answerLive busy r s).tb = s.tb ∧ (answerLive busy r s).ie = s.ie ∧ (answerLive busy r s).nt = s.nt ∧
    (answerLive busy r s).es = s.es ∧ (answerLive busy r s).nv = s.nv ∧
    (answerLive busy r s).powered = s.powered ∧ (answerLive busy r s).inputs = s.inputs ∧
    (answerLive busy r s).pending = s.pending := by
  unfold answerLive; dsimp only; repeat' split
  all_goals simp

/-- A result delivered. -/
@[simp] theorem deliver_frame (busy : Bool) (r : BurstResult) (s : State) :
    (deliver busy r s).info = s.info ∧ (deliver busy r s).mc = s.mc ∧ (deliver busy r s).powered = s.powered ∧
    (deliver busy r s).inputs = s.inputs ∧ (deliver busy r s).pending = s.pending := by
  unfold deliver; dsimp only; repeat' split
  all_goals simp

/-- A burst completes. -/
@[simp] theorem completeBurst_frame (busy : Bool) (f : Flight) (codes : List Nat) (s : State) :
    (completeBurst busy f codes s).info = s.info ∧ (completeBurst busy f codes s).powered = s.powered ∧
    (completeBurst busy f codes s).inputs = s.inputs ∧ (completeBurst busy f codes s).pending = s.pending := by
  simp [completeBurst]

/-- Settling ends. -/
@[simp] theorem settlingEnds_frame (s : State) :
    (settlingEnds s).info = s.info ∧ (settlingEnds s).cu = s.cu ∧ (settlingEnds s).tb = s.tb ∧
    (settlingEnds s).ie = s.ie ∧ (settlingEnds s).nt = s.nt ∧ (settlingEnds s).lc = s.lc ∧
    (settlingEnds s).es = s.es ∧ (settlingEnds s).nv = s.nv ∧ (settlingEnds s).sf = s.sf ∧
    (settlingEnds s).powered = s.powered ∧ (settlingEnds s).inputs = s.inputs ∧
    (settlingEnds s).pending = s.pending := by
  unfold settlingEnds; dsimp only; repeat' split
  all_goals simp

/-- A conversion ends. -/
@[simp] theorem conversionEnds_frame (code : Code) (busy : Bool) (s : State) :
    (conversionEnds code busy s).info = s.info ∧ (conversionEnds code busy s).powered = s.powered ∧
    (conversionEnds code busy s).inputs = s.inputs ∧ (conversionEnds code busy s).pending = s.pending := by
  unfold conversionEnds; dsimp only; repeat' split
  all_goals simp

/-- A frame discarded. -/
@[simp] theorem discardFrame_frame (s : State) :
    (discardFrame s).info = s.info ∧ (discardFrame s).cu = s.cu ∧ (discardFrame s).mc = s.mc ∧
    (discardFrame s).tb = s.tb ∧ (discardFrame s).ie = s.ie ∧ (discardFrame s).nt = s.nt ∧
    (discardFrame s).es = s.es ∧ (discardFrame s).nv = s.nv ∧ (discardFrame s).sf = s.sf ∧
    (discardFrame s).powered = s.powered ∧ (discardFrame s).timers = s.timers ∧
    (discardFrame s).inputs = s.inputs ∧ (discardFrame s).pending = s.pending := by
  simp [discardFrame]

/-- A beacon entered, or refused. -/
@[simp] theorem enterBeacon_frame (b : BeaconFrame) (quality : Byte) (s : State) :
    (enterBeacon b quality s).info = s.info ∧ (enterBeacon b quality s).cu = s.cu ∧
    (enterBeacon b quality s).mc = s.mc ∧ (enterBeacon b quality s).tb = s.tb ∧
    (enterBeacon b quality s).ie = s.ie ∧ (enterBeacon b quality s).lc = s.lc ∧
    (enterBeacon b quality s).es = s.es ∧ (enterBeacon b quality s).nv = s.nv ∧
    (enterBeacon b quality s).powered = s.powered ∧ (enterBeacon b quality s).timers = s.timers ∧
    (enterBeacon b quality s).inputs = s.inputs ∧ (enterBeacon b quality s).pending = s.pending := by
  unfold enterBeacon; split <;> simp

/-- A beacon taken in. -/
@[simp] theorem takeBeacon_frame (b : BeaconFrame) (quality : Byte) (s : State) :
    (takeBeacon b quality s).info = s.info ∧ (takeBeacon b quality s).cu = s.cu ∧
    (takeBeacon b quality s).ie = s.ie ∧ (takeBeacon b quality s).es = s.es ∧
    (takeBeacon b quality s).nv = s.nv ∧ (takeBeacon b quality s).powered = s.powered ∧
    (takeBeacon b quality s).inputs = s.inputs ∧ (takeBeacon b quality s).pending = s.pending := by
  unfold takeBeacon; dsimp only; repeat' split
  all_goals simp

/-- A beacon dispatched. -/
@[simp] theorem dispatchBeacon_frame (b : BeaconFrame) (quality : Byte) (s : State) :
    (dispatchBeacon b quality s).info = s.info ∧ (dispatchBeacon b quality s).cu = s.cu ∧
    (dispatchBeacon b quality s).ie = s.ie ∧ (dispatchBeacon b quality s).es = s.es ∧
    (dispatchBeacon b quality s).nv = s.nv ∧ (dispatchBeacon b quality s).powered = s.powered ∧
    (dispatchBeacon b quality s).inputs = s.inputs ∧ (dispatchBeacon b quality s).pending = s.pending := by
  unfold dispatchBeacon; repeat' split
  all_goals simp

/-- A frame dispatched. -/
@[simp] theorem dispatchFrame_frame (frame : List Byte) (quality : Byte) (busy : Bool) (s : State) :
    (dispatchFrame frame quality busy s).info = s.info ∧
    (dispatchFrame frame quality busy s).powered = s.powered ∧
    (dispatchFrame frame quality busy s).inputs = s.inputs ∧
    (dispatchFrame frame quality busy s).pending = s.pending := by
  unfold dispatchFrame; repeat' split
  all_goals simp

/-- A frame received. -/
@[simp] theorem receiveFrame_frame (frame : List Byte) (quality : Byte) (busy : Bool) (s : State) :
    (receiveFrame frame quality busy s).info = s.info ∧
    (receiveFrame frame quality busy s).powered = s.powered ∧
    (receiveFrame frame quality busy s).inputs = s.inputs ∧
    (receiveFrame frame quality busy s).pending = s.pending := by
  unfold receiveFrame; repeat' split
  all_goals simp

/-- The phase moves in the timebase. -/
@[simp] theorem reachPhase_frame (p : Nat) (s : State) :
    (reachPhase p s).info = s.info ∧ (reachPhase p s).cu = s.cu ∧ (reachPhase p s).mc = s.mc ∧
    (reachPhase p s).ie = s.ie ∧ (reachPhase p s).nt = s.nt ∧ (reachPhase p s).lc = s.lc ∧
    (reachPhase p s).es = s.es ∧ (reachPhase p s).nv = s.nv ∧ (reachPhase p s).sf = s.sf ∧
    (reachPhase p s).powered = s.powered ∧ (reachPhase p s).timers = s.timers ∧
    (reachPhase p s).inputs = s.inputs ∧ (reachPhase p s).pending = s.pending := by
  unfold reachPhase; dsimp only; repeat' split
  all_goals simp

/-- A beacon due. -/
@[simp] theorem beaconDue_frame (busy : Bool) (s : State) :
    (beaconDue busy s).info = s.info ∧ (beaconDue busy s).cu = s.cu ∧ (beaconDue busy s).mc = s.mc ∧
    (beaconDue busy s).ie = s.ie ∧ (beaconDue busy s).nt = s.nt ∧ (beaconDue busy s).es = s.es ∧
    (beaconDue busy s).nv = s.nv ∧ (beaconDue busy s).powered = s.powered ∧
    (beaconDue busy s).inputs = s.inputs ∧ (beaconDue busy s).pending = s.pending := by
  unfold beaconDue; dsimp only; repeat' split
  all_goals simp

/-- A backoff ends. -/
@[simp] theorem backoffEnds_frame (busy n : Bool) (s : State) :
    (backoffEnds busy n s).info = s.info ∧ (backoffEnds busy n s).cu = s.cu ∧
    (backoffEnds busy n s).mc = s.mc ∧ (backoffEnds busy n s).tb = s.tb ∧ (backoffEnds busy n s).ie = s.ie ∧
    (backoffEnds busy n s).nt = s.nt ∧ (backoffEnds busy n s).es = s.es ∧ (backoffEnds busy n s).nv = s.nv ∧
    (backoffEnds busy n s).powered = s.powered ∧ (backoffEnds busy n s).inputs = s.inputs ∧
    (backoffEnds busy n s).pending = s.pending := by
  unfold backoffEnds; repeat' split
  all_goals simp

/-- A frame sent. -/
@[simp] theorem countSent_frame (slot : Slot) (s : State) :
    (countSent slot s).info = s.info ∧ (countSent slot s).cu = s.cu ∧ (countSent slot s).mc = s.mc ∧
    (countSent slot s).tb = s.tb ∧ (countSent slot s).ie = s.ie ∧ (countSent slot s).nt = s.nt ∧
    (countSent slot s).es = s.es ∧ (countSent slot s).nv = s.nv ∧ (countSent slot s).sf = s.sf ∧
    (countSent slot s).powered = s.powered ∧ (countSent slot s).timers = s.timers ∧
    (countSent slot s).inputs = s.inputs ∧ (countSent slot s).pending = s.pending := by
  cases slot <;> simp [countSent]

/-- A transmission completes. -/
@[simp] theorem transmitCompletes_frame (busy : Bool) (s : State) :
    (transmitCompletes busy s).info = s.info ∧ (transmitCompletes busy s).cu = s.cu ∧
    (transmitCompletes busy s).mc = s.mc ∧ (transmitCompletes busy s).tb = s.tb ∧
    (transmitCompletes busy s).ie = s.ie ∧ (transmitCompletes busy s).nt = s.nt ∧
    (transmitCompletes busy s).es = s.es ∧ (transmitCompletes busy s).nv = s.nv ∧
    (transmitCompletes busy s).powered = s.powered ∧ (transmitCompletes busy s).inputs = s.inputs ∧
    (transmitCompletes busy s).pending = s.pending := by
  unfold transmitCompletes; repeat' split
  all_goals simp

/-- A transmission times out. -/
@[simp] theorem transmitTimesOut_frame (busy : Bool) (s : State) :
    (transmitTimesOut busy s).info = s.info ∧ (transmitTimesOut busy s).cu = s.cu ∧
    (transmitTimesOut busy s).mc = s.mc ∧ (transmitTimesOut busy s).tb = s.tb ∧
    (transmitTimesOut busy s).ie = s.ie ∧ (transmitTimesOut busy s).nt = s.nt ∧
    (transmitTimesOut busy s).es = s.es ∧ (transmitTimesOut busy s).nv = s.nv ∧
    (transmitTimesOut busy s).powered = s.powered ∧ (transmitTimesOut busy s).inputs = s.inputs ∧
    (transmitTimesOut busy s).pending = s.pending := by
  unfold transmitTimesOut; repeat' split
  all_goals simp

/-- WAIT ends. -/
@[simp] theorem waitEnds_frame (busy : Bool) (s : State) :
    (waitEnds busy s).info = s.info ∧ (waitEnds busy s).cu = s.cu ∧ (waitEnds busy s).mc = s.mc ∧
    (waitEnds busy s).tb = s.tb ∧ (waitEnds busy s).ie = s.ie ∧ (waitEnds busy s).nt = s.nt ∧
    (waitEnds busy s).es = s.es ∧ (waitEnds busy s).nv = s.nv ∧ (waitEnds busy s).powered = s.powered ∧
    (waitEnds busy s).inputs = s.inputs ∧ (waitEnds busy s).pending = s.pending := by
  unfold waitEnds; repeat' split
  all_goals simp

/-- The boundary steps of the timebase. -/
@[simp] theorem boundarySteps_frame (s : State) :
    (boundarySteps s).info = s.info ∧ (boundarySteps s).cu = s.cu ∧ (boundarySteps s).mc = s.mc ∧
    (boundarySteps s).ie = s.ie ∧ (boundarySteps s).nt = s.nt ∧ (boundarySteps s).lc = s.lc ∧
    (boundarySteps s).es = s.es ∧ (boundarySteps s).nv = s.nv ∧ (boundarySteps s).sf = s.sf ∧
    (boundarySteps s).powered = s.powered ∧ (boundarySteps s).timers = s.timers ∧
    (boundarySteps s).inputs = s.inputs ∧ (boundarySteps s).pending = s.pending := by
  simp [boundarySteps]

/-- A boundary. -/
@[simp] theorem boundary_frame (s : State) :
    (boundary s).info = s.info ∧ (boundary s).mc = s.mc ∧ (boundary s).powered = s.powered ∧
    (boundary s).inputs = s.inputs ∧ (boundary s).pending = s.pending := by
  unfold boundary; repeat' split
  all_goals simp

/-- The compare advances. -/
@[simp] theorem advanceCompare_frame (c : Nat) (s : State) :
    (advanceCompare c s).info = s.info ∧ (advanceCompare c s).cu = s.cu ∧ (advanceCompare c s).mc = s.mc ∧
    (advanceCompare c s).ie = s.ie ∧ (advanceCompare c s).nt = s.nt ∧ (advanceCompare c s).lc = s.lc ∧
    (advanceCompare c s).es = s.es ∧ (advanceCompare c s).nv = s.nv ∧ (advanceCompare c s).sf = s.sf ∧
    (advanceCompare c s).powered = s.powered ∧ (advanceCompare c s).timers = s.timers ∧
    (advanceCompare c s).inputs = s.inputs ∧ (advanceCompare c s).pending = s.pending := by
  simp [advanceCompare]

/-- A compare match. -/
@[simp] theorem compareMatches_frame (s : State) :
    (compareMatches s).info = s.info ∧ (compareMatches s).cu = s.cu ∧ (compareMatches s).ie = s.ie ∧
    (compareMatches s).nt = s.nt ∧ (compareMatches s).es = s.es ∧ (compareMatches s).nv = s.nv ∧
    (compareMatches s).sf = s.sf ∧ (compareMatches s).powered = s.powered ∧
    (compareMatches s).inputs = s.inputs ∧ (compareMatches s).pending = s.pending := by
  unfold compareMatches; dsimp only; repeat' split
  all_goals simp

/-- A held answer. -/
@[simp] theorem answerHeld_frame (held : Option Asker) (status : Status) (page : Nat) (payload : List Byte) (busy : Bool) (s : State) :
    (answerHeld held status page payload busy s).info = s.info ∧
    (answerHeld held status page payload busy s).cu = s.cu ∧
    (answerHeld held status page payload busy s).mc = s.mc ∧
    (answerHeld held status page payload busy s).tb = s.tb ∧
    (answerHeld held status page payload busy s).ie = s.ie ∧
    (answerHeld held status page payload busy s).nt = s.nt ∧
    (answerHeld held status page payload busy s).es = s.es ∧
    (answerHeld held status page payload busy s).nv = s.nv ∧
    (answerHeld held status page payload busy s).powered = s.powered ∧
    (answerHeld held status page payload busy s).inputs = s.inputs ∧
    (answerHeld held status page payload busy s).pending = s.pending := by
  cases held <;> simp [answerHeld]

/-- The entry to PRECOOL. -/
@[simp] theorem enterPrecool_frame (s : State) :
    (enterPrecool s).info = s.info ∧ (enterPrecool s).mc = s.mc ∧ (enterPrecool s).nt = s.nt ∧
    (enterPrecool s).nv = s.nv ∧ (enterPrecool s).sf = s.sf ∧ (enterPrecool s).powered = s.powered ∧
    (enterPrecool s).timers = s.timers ∧ (enterPrecool s).inputs = s.inputs ∧
    (enterPrecool s).pending = s.pending := by
  simp [enterPrecool]

/-- The profile record written. -/
@[simp] theorem profileWritten_frame (r : ProfileRecord) (busy : Bool) (s : State) :
    (profileWritten r busy s).info = s.info ∧ (profileWritten r busy s).mc = s.mc ∧
    (profileWritten r busy s).nt = s.nt ∧ (profileWritten r busy s).powered = s.powered ∧
    (profileWritten r busy s).inputs = s.inputs ∧ (profileWritten r busy s).pending = s.pending := by
  simp [profileWritten]

/-- The profile record failed. -/
@[simp] theorem profileFailed_frame (busy : Bool) (s : State) :
    (profileFailed busy s).info = s.info ∧ (profileFailed busy s).mc = s.mc ∧
    (profileFailed busy s).tb = s.tb ∧ (profileFailed busy s).ie = s.ie ∧ (profileFailed busy s).nt = s.nt ∧
    (profileFailed busy s).nv = s.nv ∧ (profileFailed busy s).powered = s.powered ∧
    (profileFailed busy s).inputs = s.inputs ∧ (profileFailed busy s).pending = s.pending := by
  simp [profileFailed]

/-- An episode stored. -/
@[simp] theorem episodeStored_frame (e : Episode) (s : State) :
    (episodeStored e s).info = s.info ∧ (episodeStored e s).cu = s.cu ∧ (episodeStored e s).mc = s.mc ∧
    (episodeStored e s).tb = s.tb ∧ (episodeStored e s).ie = s.ie ∧ (episodeStored e s).nt = s.nt ∧
    (episodeStored e s).lc = s.lc ∧ (episodeStored e s).sf = s.sf ∧ (episodeStored e s).powered = s.powered ∧
    (episodeStored e s).timers = s.timers ∧ (episodeStored e s).inputs = s.inputs ∧
    (episodeStored e s).pending = s.pending := by
  simp [episodeStored]

/-- A leg stored. -/
@[simp] theorem legEnds_frame (ok : Bool) (l : Leg) (s : State) :
    (legEnds ok l s).info = s.info ∧ (legEnds ok l s).cu = s.cu ∧ (legEnds ok l s).mc = s.mc ∧
    (legEnds ok l s).tb = s.tb ∧ (legEnds ok l s).ie = s.ie ∧ (legEnds ok l s).nt = s.nt ∧
    (legEnds ok l s).lc = s.lc ∧ (legEnds ok l s).es = s.es ∧ (legEnds ok l s).sf = s.sf ∧
    (legEnds ok l s).powered = s.powered ∧ (legEnds ok l s).timers = s.timers ∧
    (legEnds ok l s).inputs = s.inputs ∧ (legEnds ok l s).pending = s.pending := by
  simp [legEnds]

/-- A checkpoint's write ends. -/
@[simp] theorem checkpointEnds_frame (ok : Bool) (c : Option Checkpoint) (s : State) :
    (checkpointEnds ok c s).info = s.info ∧ (checkpointEnds ok c s).cu = s.cu ∧
    (checkpointEnds ok c s).mc = s.mc ∧ (checkpointEnds ok c s).tb = s.tb ∧ (checkpointEnds ok c s).ie = s.ie ∧
    (checkpointEnds ok c s).nt = s.nt ∧ (checkpointEnds ok c s).lc = s.lc ∧ (checkpointEnds ok c s).sf = s.sf ∧
    (checkpointEnds ok c s).powered = s.powered ∧ (checkpointEnds ok c s).timers = s.timers ∧
    (checkpointEnds ok c s).inputs = s.inputs ∧ (checkpointEnds ok c s).pending = s.pending := by
  simp [checkpointEnds]

/-- The certificate record's write ends. -/
@[simp] theorem certificateEnds_frame (ok : Bool) (c : Certificate) (busy : Bool) (s : State) :
    (certificateEnds ok c busy s).info = s.info ∧ (certificateEnds ok c busy s).mc = s.mc ∧
    (certificateEnds ok c busy s).tb = s.tb ∧ (certificateEnds ok c busy s).ie = s.ie ∧
    (certificateEnds ok c busy s).nt = s.nt ∧ (certificateEnds ok c busy s).es = s.es ∧
    (certificateEnds ok c busy s).powered = s.powered ∧ (certificateEnds ok c busy s).inputs = s.inputs ∧
    (certificateEnds ok c busy s).pending = s.pending := by
  simp [certificateEnds]

/-- A record ends. -/
@[simp] theorem recordEnds_frame (ok busy : Bool) (r : QueueRecord) (s : State) :
    (recordEnds ok busy r s).info = s.info ∧ (recordEnds ok busy r s).mc = s.mc ∧
    (recordEnds ok busy r s).nt = s.nt ∧ (recordEnds ok busy r s).powered = s.powered ∧
    (recordEnds ok busy r s).inputs = s.inputs ∧ (recordEnds ok busy r s).pending = s.pending := by
  unfold recordEnds; dsimp only; repeat' split
  all_goals simp

/-- A write ends. -/
@[simp] theorem writeEnds_frame (v b busy : Bool) (s : State) :
    (writeEnds v b busy s).info = s.info ∧ (writeEnds v b busy s).mc = s.mc ∧
    (writeEnds v b busy s).nt = s.nt ∧ (writeEnds v b busy s).powered = s.powered ∧
    (writeEnds v b busy s).inputs = s.inputs ∧ (writeEnds v b busy s).pending = s.pending := by
  unfold writeEnds; repeat' split
  all_goals simp

/-- A closing record handed over. -/
@[simp] theorem handOverClosing_frame (s : State) :
    (handOverClosing s).info = s.info ∧ (handOverClosing s).mc = s.mc ∧ (handOverClosing s).tb = s.tb ∧
    (handOverClosing s).ie = s.ie ∧ (handOverClosing s).nt = s.nt ∧ (handOverClosing s).lc = s.lc ∧
    (handOverClosing s).powered = s.powered ∧ (handOverClosing s).inputs = s.inputs ∧
    (handOverClosing s).pending = s.pending := by
  unfold handOverClosing; dsimp only; repeat' split
  all_goals simp

/-- Every block blank. -/
@[simp] theorem blankBlocks_frame (busy : Bool) (s : State) :
    (blankBlocks busy s).info = s.info ∧ (blankBlocks busy s).powered = s.powered ∧
    (blankBlocks busy s).inputs = s.inputs ∧ (blankBlocks busy s).pending = s.pending := by
  simp [blankBlocks]

/-- An erase completes. -/
@[simp] theorem eraseCompletes_frame (busy : Bool) (s : State) :
    (eraseCompletes busy s).info = s.info ∧ (eraseCompletes busy s).powered = s.powered ∧
    (eraseCompletes busy s).inputs = s.inputs ∧ (eraseCompletes busy s).pending = s.pending := by
  unfold eraseCompletes; repeat' split
  all_goals simp

/-- The supply state set. -/
@[simp] theorem setSupply_frame (x : Supply) (s : State) :
    (setSupply x s).info = s.info ∧ (setSupply x s).cu = s.cu ∧ (setSupply x s).mc = s.mc ∧
    (setSupply x s).ie = s.ie ∧ (setSupply x s).nt = s.nt ∧ (setSupply x s).lc = s.lc ∧
    (setSupply x s).es = s.es ∧ (setSupply x s).nv = s.nv ∧ (setSupply x s).powered = s.powered ∧
    (setSupply x s).timers = s.timers ∧ (setSupply x s).inputs = s.inputs ∧ (setSupply x s).pending = s.pending := by
  simp [setSupply]

/-- The fall to LOW. -/
@[simp] theorem fallToLow_frame (s : State) :
    (fallToLow s).info = s.info ∧ (fallToLow s).cu = s.cu ∧ (fallToLow s).mc = s.mc ∧ (fallToLow s).ie = s.ie ∧
    (fallToLow s).nt = s.nt ∧ (fallToLow s).lc = s.lc ∧ (fallToLow s).es = s.es ∧ (fallToLow s).nv = s.nv ∧
    (fallToLow s).powered = s.powered ∧ (fallToLow s).timers = s.timers ∧ (fallToLow s).inputs = s.inputs ∧
    (fallToLow s).pending = s.pending := by
  simp [fallToLow]

/-- The fall to LOW. -/
@[simp] theorem supplyFallsLow_frame (s : State) :
    (supplyFallsLow s).info = s.info ∧ (supplyFallsLow s).cu = s.cu ∧ (supplyFallsLow s).mc = s.mc ∧
    (supplyFallsLow s).ie = s.ie ∧ (supplyFallsLow s).nt = s.nt ∧ (supplyFallsLow s).lc = s.lc ∧
    (supplyFallsLow s).es = s.es ∧ (supplyFallsLow s).nv = s.nv ∧ (supplyFallsLow s).powered = s.powered ∧
    (supplyFallsLow s).timers = s.timers ∧ (supplyFallsLow s).inputs = s.inputs ∧
    (supplyFallsLow s).pending = s.pending := by
  unfold supplyFallsLow; repeat' split
  all_goals simp

/-- A recovery. -/
@[simp] theorem resume_frame (s : State) :
    (resume s).info = s.info ∧ (resume s).cu = s.cu ∧ (resume s).mc = s.mc ∧ (resume s).ie = s.ie ∧
    (resume s).nt = s.nt ∧ (resume s).es = s.es ∧ (resume s).nv = s.nv ∧ (resume s).sf = s.sf ∧
    (resume s).powered = s.powered ∧ (resume s).inputs = s.inputs ∧ (resume s).pending = s.pending := by
  simp [resume]

/-- The compare emptied. -/
@[simp] theorem clearCompare_frame (s : State) :
    (clearCompare s).info = s.info ∧ (clearCompare s).cu = s.cu ∧ (clearCompare s).mc = s.mc ∧
    (clearCompare s).ie = s.ie ∧ (clearCompare s).nt = s.nt ∧ (clearCompare s).lc = s.lc ∧
    (clearCompare s).es = s.es ∧ (clearCompare s).nv = s.nv ∧ (clearCompare s).sf = s.sf ∧
    (clearCompare s).powered = s.powered ∧ (clearCompare s).timers = s.timers ∧
    (clearCompare s).inputs = s.inputs ∧ (clearCompare s).pending = s.pending := by
  simp [clearCompare]

/-- The rise to LOW. -/
@[simp] theorem riseToLow_frame (s : State) :
    (riseToLow s).info = s.info ∧ (riseToLow s).cu = s.cu ∧ (riseToLow s).mc = s.mc ∧ (riseToLow s).ie = s.ie ∧
    (riseToLow s).nt = s.nt ∧ (riseToLow s).powered = s.powered ∧ (riseToLow s).inputs = s.inputs ∧
    (riseToLow s).pending = s.pending := by
  unfold riseToLow; dsimp only; repeat' split
  all_goals simp

/-- The rise to LOW. -/
@[simp] theorem supplyRecovers_frame (s : State) :
    (supplyRecovers s).info = s.info ∧ (supplyRecovers s).cu = s.cu ∧ (supplyRecovers s).mc = s.mc ∧
    (supplyRecovers s).ie = s.ie ∧ (supplyRecovers s).nt = s.nt ∧ (supplyRecovers s).powered = s.powered ∧
    (supplyRecovers s).inputs = s.inputs ∧ (supplyRecovers s).pending = s.pending := by
  unfold supplyRecovers; repeat' split
  all_goals simp

/-- The rise to GOOD. -/
@[simp] theorem supplyRisesGood_frame (s : State) :
    (supplyRisesGood s).info = s.info ∧ (supplyRisesGood s).cu = s.cu ∧ (supplyRisesGood s).mc = s.mc ∧
    (supplyRisesGood s).ie = s.ie ∧ (supplyRisesGood s).nt = s.nt ∧ (supplyRisesGood s).powered = s.powered ∧
    (supplyRisesGood s).inputs = s.inputs ∧ (supplyRisesGood s).pending = s.pending := by
  unfold supplyRisesGood; repeat' split
  all_goals simp

/-- The CRITICAL checkpoint offered. -/
@[simp] theorem offerCritical_frame (s : State) :
    (offerCritical s).info = s.info ∧ (offerCritical s).cu = s.cu ∧ (offerCritical s).mc = s.mc ∧
    (offerCritical s).tb = s.tb ∧ (offerCritical s).ie = s.ie ∧ (offerCritical s).nt = s.nt ∧
    (offerCritical s).lc = s.lc ∧ (offerCritical s).powered = s.powered ∧ (offerCritical s).inputs = s.inputs ∧
    (offerCritical s).pending = s.pending := by
  unfold offerCritical; dsimp only; repeat' split
  all_goals simp

/-- The CRITICAL entry. -/
@[simp] theorem enterHaltPending_frame (busy : Bool) (s : State) :
    (enterHaltPending busy s).info = s.info ∧ (enterHaltPending busy s).tb = s.tb ∧
    (enterHaltPending busy s).powered = s.powered ∧ (enterHaltPending busy s).inputs = s.inputs ∧
    (enterHaltPending busy s).pending = s.pending := by
  simp [enterHaltPending]

/-- The fall to CRITICAL. -/
@[simp] theorem fallToCritical_frame (busy : Bool) (s : State) :
    (fallToCritical busy s).info = s.info ∧ (fallToCritical busy s).powered = s.powered ∧
    (fallToCritical busy s).inputs = s.inputs ∧ (fallToCritical busy s).pending = s.pending := by
  unfold fallToCritical; dsimp only; repeat' split
  all_goals simp

/-- The fall to CRITICAL. -/
@[simp] theorem supplyFallsCritical_frame (busy : Bool) (s : State) :
    (supplyFallsCritical busy s).info = s.info ∧ (supplyFallsCritical busy s).powered = s.powered ∧
    (supplyFallsCritical busy s).inputs = s.inputs ∧ (supplyFallsCritical busy s).pending = s.pending := by
  unfold supplyFallsCritical; repeat' split
  all_goals simp

/-- The halt. -/
@[simp] theorem halts_frame (s : State) :
    (halts s).info = s.info ∧ (halts s).cu = s.cu ∧ (halts s).mc = s.mc ∧ (halts s).ie = s.ie ∧
    (halts s).nt = s.nt ∧ (halts s).es = s.es ∧ (halts s).nv = s.nv ∧ (halts s).powered = s.powered ∧
    (halts s).inputs = s.inputs ∧ (halts s).pending = s.pending := by
  unfold halts; dsimp only; repeat' split
  all_goals simp

end Sys2Proof.Machine
end

