-- ==== Sys2Proof/Laws/Queue.lean ====
section
/-! SUPPORT. What the write queue's operations leave unchanged inside the evidence store. -/

namespace Sys2Proof.Machine

@[simp] theorem foldEpisode_es (e : Episode) (s : State) :
    (foldEpisode e s).es.openExcursion = s.es.openExcursion ∧ (foldEpisode e s).es.openGap = s.es.openGap ∧
    (foldEpisode e s).es.openCover = s.es.openCover ∧ (foldEpisode e s).es.openLeg = s.es.openLeg ∧
    (foldEpisode e s).es.legCount = s.es.legCount ∧ (foldEpisode e s).es.storedCount = s.es.storedCount ∧
    (foldEpisode e s).es.ringPosition = s.es.ringPosition ∧ (foldEpisode e s).es.sequence = s.es.sequence ∧
    (foldEpisode e s).es.held = s.es.held := by
  unfold foldEpisode; dsimp only; split <;> simp

@[simp] theorem writing_es (q : List QueueRecord) (s : State) :
    (writing q s).es.openExcursion = s.es.openExcursion ∧ (writing q s).es.openGap = s.es.openGap ∧
    (writing q s).es.openCover = s.es.openCover ∧ (writing q s).es.openLeg = s.es.openLeg ∧
    (writing q s).es.legCount = s.es.legCount ∧ (writing q s).es.storedCount = s.es.storedCount ∧
    (writing q s).es.ringPosition = s.es.ringPosition ∧ (writing q s).es.sequence = s.es.sequence ∧
    (writing q s).es.held = s.es.held := by
  simp [writing]

@[simp] theorem writeHead_nv (q : List QueueRecord) (s : State) :
    (writeHead q s).nv.profile = s.nv.profile ∧ (writeHead q s).nv.episodes = s.nv.episodes ∧
    (writeHead q s).nv.certificate = s.nv.certificate ∧ (writeHead q s).nv.eraseMarker = s.nv.eraseMarker := by
  induction q generalizing s with
  | nil => simp [writeHead]
  | cons r rest ih => cases r <;> simp [writeHead] <;> split <;> simp [ih]

/-- The leg slots after a queue is taken up: each keeps what it held, but that of a leg whose write has now begun
(R123; log 37). -/
theorem writeHead_legs (q : List QueueRecord) (s : State) :
    (writeHead q s).nv.legs.length = s.nv.legs.length ∧
    ∀ k, (writeHead q s).nv.legs[k]? = s.nv.legs[k]? ∨
      ((writeHead q s).es.state = .writing ∧
        ∃ l rest, (writeHead q s).es.queue = .leg l :: rest ∧ k = l.number - 1) := by
  induction q generalizing s with
  | nil => exact ⟨rfl, fun _ => .inl rfl⟩
  | cons r rest ih =>
    cases r with
    | episode e =>
      simp only [writeHead]; split
      · simpa using ih (foldEpisode e s)
      · exact ⟨rfl, fun _ => .inl rfl⟩
    | leg l =>
      refine ⟨by simp [writeHead], fun k => ?_⟩
      by_cases hk : k = l.number - 1
      · exact .inr ⟨rfl, l, rest, rfl, hk⟩
      · left; simp [writeHead, Ne.symm hk]
    | profile _ | checkpoint _ | certificate _ => exact ⟨rfl, fun _ => .inl rfl⟩

@[simp] theorem startWrites_nv (s : State) :
    (startWrites s).nv.profile = s.nv.profile ∧ (startWrites s).nv.episodes = s.nv.episodes ∧
    (startWrites s).nv.certificate = s.nv.certificate ∧ (startWrites s).nv.eraseMarker = s.nv.eraseMarker := by
  unfold startWrites; split <;> simp

@[simp] theorem joinQueue_nv (r : QueueRecord) (s : State) :
    (joinQueue r s).nv.profile = s.nv.profile ∧ (joinQueue r s).nv.episodes = s.nv.episodes ∧
    (joinQueue r s).nv.certificate = s.nv.certificate ∧ (joinQueue r s).nv.eraseMarker = s.nv.eraseMarker := by
  simp [joinQueue]

@[simp] theorem admitCritical_nv (s : State) :
    (admitCritical s).nv.profile = s.nv.profile ∧ (admitCritical s).nv.episodes = s.nv.episodes ∧
    (admitCritical s).nv.certificate = s.nv.certificate ∧ (admitCritical s).nv.eraseMarker = s.nv.eraseMarker := by
  unfold admitCritical; dsimp only; repeat' split
  all_goals simp

@[simp] theorem offer_nv (r : QueueRecord) (s : State) :
    (offer r s).nv.profile = s.nv.profile ∧ (offer r s).nv.episodes = s.nv.episodes ∧
    (offer r s).nv.certificate = s.nv.certificate ∧ (offer r s).nv.eraseMarker = s.nv.eraseMarker := by
  unfold offer; dsimp only; repeat' split
  all_goals simp

@[simp] theorem offerAll_nv (rs : List QueueRecord) (s : State) :
    (offerAll rs s).nv.profile = s.nv.profile ∧ (offerAll rs s).nv.episodes = s.nv.episodes ∧
    (offerAll rs s).nv.certificate = s.nv.certificate ∧ (offerAll rs s).nv.eraseMarker = s.nv.eraseMarker := by
  induction rs generalizing s <;> simp_all [offerAll]

@[simp] theorem nextWrite_nv (s : State) :
    (nextWrite s).nv.profile = s.nv.profile ∧ (nextWrite s).nv.episodes = s.nv.episodes ∧
    (nextWrite s).nv.certificate = s.nv.certificate ∧ (nextWrite s).nv.eraseMarker = s.nv.eraseMarker := by
  unfold nextWrite; split <;> simp

@[simp] theorem writeHead_es (q : List QueueRecord) (s : State) :
    (writeHead q s).es.openExcursion = s.es.openExcursion ∧ (writeHead q s).es.openGap = s.es.openGap ∧
    (writeHead q s).es.openCover = s.es.openCover ∧ (writeHead q s).es.openLeg = s.es.openLeg ∧
    (writeHead q s).es.legCount = s.es.legCount ∧ (writeHead q s).es.storedCount = s.es.storedCount ∧
    (writeHead q s).es.ringPosition = s.es.ringPosition ∧ (writeHead q s).es.sequence = s.es.sequence ∧
    (writeHead q s).es.held = s.es.held := by
  induction q generalizing s with
  | nil => simp [writeHead]
  | cons r rest ih => cases r <;> simp [writeHead, writing] <;> split <;> simp [ih]

@[simp] theorem startWrites_es (s : State) :
    (startWrites s).es.openExcursion = s.es.openExcursion ∧ (startWrites s).es.openGap = s.es.openGap ∧
    (startWrites s).es.openCover = s.es.openCover ∧ (startWrites s).es.openLeg = s.es.openLeg ∧
    (startWrites s).es.legCount = s.es.legCount ∧ (startWrites s).es.storedCount = s.es.storedCount ∧
    (startWrites s).es.ringPosition = s.es.ringPosition ∧ (startWrites s).es.sequence = s.es.sequence ∧
    (startWrites s).es.held = s.es.held := by
  unfold startWrites; split <;> simp

@[simp] theorem joinQueue_es (r : QueueRecord) (s : State) :
    (joinQueue r s).es.openExcursion = s.es.openExcursion ∧ (joinQueue r s).es.openGap = s.es.openGap ∧
    (joinQueue r s).es.openCover = s.es.openCover ∧ (joinQueue r s).es.openLeg = s.es.openLeg ∧
    (joinQueue r s).es.legCount = s.es.legCount ∧ (joinQueue r s).es.storedCount = s.es.storedCount ∧
    (joinQueue r s).es.ringPosition = s.es.ringPosition ∧ (joinQueue r s).es.sequence = s.es.sequence ∧
    (joinQueue r s).es.held = s.es.held := by
  simp [joinQueue]

@[simp] theorem admitCritical_es (s : State) :
    (admitCritical s).es.openExcursion = s.es.openExcursion ∧ (admitCritical s).es.openGap = s.es.openGap ∧
    (admitCritical s).es.openCover = s.es.openCover ∧ (admitCritical s).es.openLeg = s.es.openLeg ∧
    (admitCritical s).es.legCount = s.es.legCount ∧ (admitCritical s).es.storedCount = s.es.storedCount ∧
    (admitCritical s).es.ringPosition = s.es.ringPosition ∧ (admitCritical s).es.sequence = s.es.sequence ∧
    (admitCritical s).es.held = s.es.held := by
  unfold admitCritical; dsimp only; repeat' split
  all_goals simp

@[simp] theorem refuseRecord_es (r : QueueRecord) (s : State) :
    (refuseRecord r s).es.openExcursion = s.es.openExcursion ∧ (refuseRecord r s).es.openGap = s.es.openGap ∧
    (refuseRecord r s).es.openCover = s.es.openCover ∧ (refuseRecord r s).es.openLeg = s.es.openLeg ∧
    (refuseRecord r s).es.legCount = s.es.legCount ∧ (refuseRecord r s).es.storedCount = s.es.storedCount ∧
    (refuseRecord r s).es.ringPosition = s.es.ringPosition ∧ (refuseRecord r s).es.sequence = s.es.sequence ∧
    (refuseRecord r s).es.held = s.es.held := by
  cases r <;> simp [refuseRecord]

@[simp] theorem offer_es (r : QueueRecord) (s : State) :
    (offer r s).es.openExcursion = s.es.openExcursion ∧ (offer r s).es.openGap = s.es.openGap ∧
    (offer r s).es.openCover = s.es.openCover ∧ (offer r s).es.openLeg = s.es.openLeg ∧
    (offer r s).es.legCount = s.es.legCount ∧ (offer r s).es.storedCount = s.es.storedCount ∧
    (offer r s).es.ringPosition = s.es.ringPosition ∧ (offer r s).es.sequence = s.es.sequence ∧
    (offer r s).es.held = s.es.held := by
  unfold offer; dsimp only; repeat' split
  all_goals simp

@[simp] theorem offerAll_es (rs : List QueueRecord) (s : State) :
    (offerAll rs s).es.openExcursion = s.es.openExcursion ∧ (offerAll rs s).es.openGap = s.es.openGap ∧
    (offerAll rs s).es.openCover = s.es.openCover ∧ (offerAll rs s).es.openLeg = s.es.openLeg ∧
    (offerAll rs s).es.legCount = s.es.legCount ∧ (offerAll rs s).es.storedCount = s.es.storedCount ∧
    (offerAll rs s).es.ringPosition = s.es.ringPosition ∧ (offerAll rs s).es.sequence = s.es.sequence ∧
    (offerAll rs s).es.held = s.es.held := by
  induction rs generalizing s <;> simp_all [offerAll]

@[simp] theorem nextWrite_es (s : State) :
    (nextWrite s).es.openExcursion = s.es.openExcursion ∧ (nextWrite s).es.openGap = s.es.openGap ∧
    (nextWrite s).es.openCover = s.es.openCover ∧ (nextWrite s).es.openLeg = s.es.openLeg ∧
    (nextWrite s).es.legCount = s.es.legCount ∧ (nextWrite s).es.storedCount = s.es.storedCount ∧
    (nextWrite s).es.ringPosition = s.es.ringPosition ∧ (nextWrite s).es.sequence = s.es.sequence ∧
    (nextWrite s).es.held = s.es.held := by
  unfold nextWrite; split <;> simp

end Sys2Proof.Machine
end

