-- ==== Sys2Proof/Laws/Close.lean ====
section
/-! SUPPORT. What a close leaves unchanged inside the exposure engine and the link controller, how it ages the table, and
what its stages settle. -/

namespace Sys2Proof.Machine

@[simp] theorem applyConsensus_ie (ev : Evidence) (c : Consensus) (s : State) :
    (applyConsensus ev c s).ie = { s.ie with consensusRun := c.run } := by
  unfold applyConsensus; dsimp only; split <;> simp

theorem closeOpenRun_ie (ie : ExposureBlock) :
    (closeOpenRun ie).old = ie.old ∧ (closeOpenRun ie).cur = ie.cur ∧
    (closeOpenRun ie).consensusRun = ie.consensusRun ∧ (closeOpenRun ie).precoolCount = ie.precoolCount ∧
    (closeOpenRun ie).history = ie.history ∧ (closeOpenRun ie).lastClosed = ie.lastClosed :=
  ⟨rfl, rfl, rfl, rfl, rfl, rfl⟩

theorem chargeCovered_ie (p : Profile) (f : Figures) (ie : ExposureBlock) :
    (chargeCovered p f ie).1.old = ie.old ∧ (chargeCovered p f ie).1.cur = ie.cur ∧
    (chargeCovered p f ie).1.consensusRun = ie.consensusRun ∧
    (chargeCovered p f ie).1.precoolCount = ie.precoolCount ∧ (chargeCovered p f ie).1.history = ie.history ∧
    (chargeCovered p f ie).1.lastClosed = ie.lastClosed := by
  unfold chargeCovered; dsimp only; repeat' split
  all_goals exact ⟨rfl, rfl, rfl, rfl, rfl, rfl⟩

theorem chargeGap_ie (p : Profile) (ie : ExposureBlock) :
    (chargeGap p ie).1.old = ie.old ∧ (chargeGap p ie).1.cur = ie.cur ∧
    (chargeGap p ie).1.consensusRun = ie.consensusRun ∧ (chargeGap p ie).1.precoolCount = ie.precoolCount ∧
    (chargeGap p ie).1.history = ie.history ∧ (chargeGap p ie).1.lastClosed = ie.lastClosed := by
  unfold chargeGap; dsimp only; repeat' split
  all_goals exact ⟨rfl, rfl, rfl, rfl, rfl, rfl⟩

theorem chargeStage_ie (p : Bool) (f : Option Figures) (s : State) :
    (chargeStage p f s).1.old = s.ie.old ∧ (chargeStage p f s).1.cur = s.ie.cur ∧
    (chargeStage p f s).1.consensusRun = s.ie.consensusRun ∧
    (chargeStage p f s).1.precoolCount = s.ie.precoolCount ∧ (chargeStage p f s).1.history = s.ie.history ∧
    (chargeStage p f s).1.lastClosed = s.ie.lastClosed := by
  unfold chargeStage; dsimp only
  split
  · split
    · cases f
      · simp [closeOpenRun_ie, chargeGap_ie]
      · simp [closeOpenRun_ie, chargeCovered_ie]
    · cases f
      · simp [chargeGap_ie]
      · simp [chargeCovered_ie]
  · cases f <;> simp

/-- What stages 3 and 5 leave of the exposure engine. -/
@[simp] theorem closeCounted_ie (p : Bool) (acc : Accumulator) (s : State) :
    (closeCounted p acc s).old = s.ie.old ∧ (closeCounted p acc s).cur = s.ie.cur ∧
    (closeCounted p acc s).consensusRun = (closeConsensus acc s).run ∧
    (closeCounted p acc s).precoolCount = s.ie.precoolCount ∧ (closeCounted p acc s).history = s.ie.history ∧
    (closeCounted p acc s).lastClosed = s.ie.lastClosed := by
  have h := chargeStage_ie p (closeEvidence acc s).figures (afterConsensus acc s)
  unfold closeCounted closeCharges; dsimp only
  split <;> simpa [afterConsensus] using h

/-- What a close leaves of the exposure engine and sets there whatever it finds. -/
theorem closeInterval_ie (p : Bool) (acc : Accumulator) (s : State) :
    (closeInterval p acc s).ie.old = s.ie.old ∧ (closeInterval p acc s).ie.cur = s.ie.cur ∧
    (closeInterval p acc s).ie.exposure = (closeCounted p acc s).exposure ∧
    (closeInterval p acc s).ie.gapRun = (closeCounted p acc s).gapRun ∧
    (closeInterval p acc s).ie.mark = (closeCounted p acc s).mark ∧
    (closeInterval p acc s).ie.before = (closeCounted p acc s).before ∧
    (closeInterval p acc s).ie.consensusRun = (closeConsensus acc s).run ∧
    (closeInterval p acc s).ie.counts = (closeCounted p acc s).counts ∧
    (closeInterval p acc s).ie.lastClosed = some acc.interval := by
  simp only [closeInterval, handOn_frame]
  unfold afterCustody precoolStage; dsimp only; repeat' split
  all_goals simp [afterRecord]

/-- A close puts the beacon content into the link controller and leaves the rest of it. -/
theorem closeInterval_lc (p : Bool) (acc : Accumulator) (s : State) :
    ∃ c, (closeInterval p acc s).lc = { s.lc with content := some c } := by
  simp only [closeInterval, handOn]
  split <;> simp only [offer_frame, afterCustody_frame] <;> exact ⟨_, rfl⟩

/-- A close ages the neighbour table (R97). -/
theorem closeInterval_nt (p : Bool) (acc : Accumulator) (s : State) :
    (closeInterval p acc s).nt = ageTable acc.interval s.nt := by
  simp only [closeInterval, handOn]
  split <;> simp

/-! ## What the stages of a close settle -/

/-- After stage 2 the exposure engine differs by the consensus run alone. -/
theorem afterConsensus_ie (acc : Accumulator) (s : State) :
    (afterConsensus acc s).ie = { s.ie with consensusRun := (closeConsensus acc s).run } := by
  simp [afterConsensus]

theorem afterConsensus_profile (acc : Accumulator) (s : State) : (afterConsensus acc s).profile = s.profile := by
  simp [State.profile]

theorem afterConsensus_es (acc : Accumulator) (s : State) : (afterConsensus acc s).es = s.es := by
  unfold afterConsensus applyConsensus; dsimp only; split <;> simp

/-- The custody controller after a close is what stage 8 left. -/
theorem closeInterval_cu (p : Bool) (acc : Accumulator) (s : State) :
    (closeInterval p acc s).cu = (afterCustody p acc s).cu := by
  simp only [closeInterval, handOn]; split <;> simp

/-- The ring after a close is what stage 6 made of it. -/
theorem closeInterval_history (p : Bool) (acc : Accumulator) (s : State) :
    (closeInterval p acc s).ie.history = (afterRecord p acc s).ie.history := by
  simp only [closeInterval, handOn_frame]
  unfold afterCustody precoolStage afterEpisodes; dsimp only; repeat' split
  all_goals simp

/-- Stage 3 in CHILLED, EXCURSION and BROKEN: a covered or a GAP interval is charged, and the partial close ends the run
that is still open. -/
theorem closeCharges_custody (p : Bool) (acc : Accumulator) (s : State) (h : s.cu.custody.charges = true) :
    closeCharges p acc s =
      (let r := match (closeEvidence acc s).figures with
        | some f => chargeCovered s.profile f { s.ie with consensusRun := (closeConsensus acc s).run }
        | none => chargeGap s.profile { s.ie with consensusRun := (closeConsensus acc s).run }
      if p then (closeOpenRun r.1, r.2) else r) := by
  have hc : (afterConsensus acc s).cu.custody.charges = true := by simpa using h
  unfold closeCharges chargeStage
  rw [if_pos hc, afterConsensus_ie, afterConsensus_profile]
  all_goals rfl

/-- Outside CHILLED, EXCURSION and BROKEN stage 3 leaves the counts, the run, its mark, W and C (R71). -/
theorem chargeStage_other (p : Bool) (f : Option Figures) (s : State) (h : s.cu.custody.charges = false) :
    (chargeStage p f s).1.counts = s.ie.counts ∧ (chargeStage p f s).1.gapRun = s.ie.gapRun ∧
    (chargeStage p f s).1.mark = s.ie.mark ∧ (chargeStage p f s).1.exposure = s.ie.exposure := by
  unfold chargeStage; rw [if_neg (by simp [h])]; cases f <;> simp

end Sys2Proof.Machine
end

