-- ==== Sys2Proof/Laws/State.lean ====
section
/-! SUPPORT. The fields of the named updates and of the reset state, one lemma per field, each true by unfolding. -/

namespace Sys2Proof.Machine

/-! ## A command frame taken -/

@[simp] theorem State.taken_info (s : State) : s.taken.info = s.info := rfl
@[simp] theorem State.taken_cu (s : State) : s.taken.cu = s.cu := rfl
@[simp] theorem State.taken_mc (s : State) : s.taken.mc = s.mc := rfl
@[simp] theorem State.taken_tb (s : State) : s.taken.tb = s.tb := rfl
@[simp] theorem State.taken_ie (s : State) : s.taken.ie = s.ie := rfl
@[simp] theorem State.taken_nt (s : State) : s.taken.nt = s.nt := rfl
@[simp] theorem State.taken_es (s : State) : s.taken.es = s.es := rfl
@[simp] theorem State.taken_nv (s : State) : s.taken.nv = s.nv := rfl
@[simp] theorem State.taken_sf (s : State) : s.taken.sf = s.sf := rfl
@[simp] theorem State.taken_powered (s : State) : s.taken.powered = s.powered := rfl
@[simp] theorem State.taken_timers (s : State) : s.taken.timers = s.timers := rfl
@[simp] theorem State.taken_inputs (s : State) : s.taken.inputs = s.inputs := rfl
@[simp] theorem State.taken_pending (s : State) : s.taken.pending = s.pending := rfl
@[simp] theorem State.taken_enable (s : State) : s.taken.lc.enable = s.lc.enable := rfl
@[simp] theorem State.taken_tx (s : State) : s.taken.lc.tx = s.lc.tx := rfl
@[simp] theorem State.taken_replySlot (s : State) : s.taken.lc.replySlot = s.lc.replySlot := rfl
@[simp] theorem State.taken_beaconSlot (s : State) : s.taken.lc.beaconSlot = s.lc.beaconSlot := rfl
@[simp] theorem State.taken_liveInFlight (s : State) : s.taken.lc.liveInFlight = s.lc.liveInFlight := rfl
@[simp] theorem State.taken_liveWaiting (s : State) : s.taken.lc.liveWaiting = s.lc.liveWaiting := rfl
@[simp] theorem State.taken_profile (s : State) : s.taken.profile = s.profile := rfl

/-! ## A frame discarded -/

@[simp] theorem State.frameDiscarded_info (s : State) : s.frameDiscarded.info = s.info := rfl
@[simp] theorem State.frameDiscarded_cu (s : State) : s.frameDiscarded.cu = s.cu := rfl
@[simp] theorem State.frameDiscarded_mc (s : State) : s.frameDiscarded.mc = s.mc := rfl
@[simp] theorem State.frameDiscarded_tb (s : State) : s.frameDiscarded.tb = s.tb := rfl
@[simp] theorem State.frameDiscarded_ie (s : State) : s.frameDiscarded.ie = s.ie := rfl
@[simp] theorem State.frameDiscarded_nt (s : State) : s.frameDiscarded.nt = s.nt := rfl
@[simp] theorem State.frameDiscarded_es (s : State) : s.frameDiscarded.es = s.es := rfl
@[simp] theorem State.frameDiscarded_nv (s : State) : s.frameDiscarded.nv = s.nv := rfl
@[simp] theorem State.frameDiscarded_sf (s : State) : s.frameDiscarded.sf = s.sf := rfl

/-! ## A beacon taken -/

@[simp] theorem State.beaconTaken_info (s : State) : s.beaconTaken.info = s.info := rfl
@[simp] theorem State.beaconTaken_cu (s : State) : s.beaconTaken.cu = s.cu := rfl
@[simp] theorem State.beaconTaken_mc (s : State) : s.beaconTaken.mc = s.mc := rfl
@[simp] theorem State.beaconTaken_tb (s : State) : s.beaconTaken.tb = s.tb := rfl
@[simp] theorem State.beaconTaken_ie (s : State) : s.beaconTaken.ie = s.ie := rfl
@[simp] theorem State.beaconTaken_nt (s : State) : s.beaconTaken.nt = s.nt := rfl
@[simp] theorem State.beaconTaken_es (s : State) : s.beaconTaken.es = s.es := rfl
@[simp] theorem State.beaconTaken_nv (s : State) : s.beaconTaken.nv = s.nv := rfl
@[simp] theorem State.beaconTaken_sf (s : State) : s.beaconTaken.sf = s.sf := rfl

/-! ## The transmitter idle, the radio switched off and on -/

@[simp] theorem transmitterIdle_tx (s : State) : (transmitterIdle s).lc.tx = .idle := rfl
@[simp] theorem transmitterIdle_served (s : State) : (transmitterIdle s).lc.served = none := rfl
@[simp] theorem transmitterIdle_onAir (s : State) : (transmitterIdle s).lc.onAir = none := rfl
@[simp] theorem transmitterIdle_attempts (s : State) : (transmitterIdle s).lc.attempts = 0 := rfl
@[simp] theorem radioOff_enable (s : State) : (radioOff s).lc.enable = false := rfl
@[simp] theorem radioOff_tx (s : State) : (radioOff s).lc.tx = .idle := rfl
@[simp] theorem radioOff_beaconSlot (s : State) : (radioOff s).lc.beaconSlot = none := rfl
@[simp] theorem radioOff_replySlot (s : State) : (radioOff s).lc.replySlot = none := rfl
@[simp] theorem radioOn_enable (s : State) : (radioOn s).lc.enable = true := rfl
@[simp] theorem radioOn_tx (s : State) : (radioOn s).lc.tx = .wait := rfl

/-! ## The compare value and a leg slot -/

@[simp] theorem clearCompare_compare (s : State) : (clearCompare s).tb.compare = none := rfl
@[simp] theorem clearCompare_interval (s : State) : (clearCompare s).tb.interval = s.tb.interval := rfl
@[simp] theorem clearCompare_phase (s : State) : (clearCompare s).tb.phase = s.tb.phase := rfl
@[simp] theorem clearCompare_mode (s : State) : (clearCompare s).tb.mode = s.tb.mode := rfl
@[simp] theorem clearCompare_period (s : State) : (clearCompare s).tb.period = s.tb.period := rfl
@[simp] theorem clearCompare_buffer (s : State) : (clearCompare s).tb.buffer = s.tb.buffer := rfl
@[simp] theorem clearCompare_fastUntil (s : State) : (clearCompare s).tb.fastUntil = s.tb.fastUntil := rfl
@[simp] theorem legEnds_legs (ok : Bool) (l : Leg) (s : State) :
    (legEnds ok l s).nv.legs = s.nv.legs.set (l.number - 1) (if ok then some l else none) := rfl
@[simp] theorem legEnds_checkpoints (ok : Bool) (l : Leg) (s : State) :
    (legEnds ok l s).nv.checkpoints = s.nv.checkpoints := rfl
@[simp] theorem legEnds_episodes (ok : Bool) (l : Leg) (s : State) : (legEnds ok l s).nv.episodes = s.nv.episodes := rfl

/-! ## The reset state -/

theorem State.reset_cu : State.reset.cu = CustodyBlock.blank := rfl
theorem State.reset_mc : State.reset.mc = ConverterBlock.blank := rfl
theorem State.reset_ie : State.reset.ie = ExposureBlock.blank := rfl
theorem State.reset_nt : State.reset.nt = emptyTable := rfl
theorem State.reset_es : State.reset.es = StoreBlock.blank := rfl
theorem State.reset_nv : State.reset.nv = Areas.empty := rfl
theorem State.reset_sf : State.reset.sf = SupplyBlock.start .good .running := rfl

end Sys2Proof.Machine
end

