-- ==== Sys2Proof/Laws/Commands.lean ====
section
/-! SUPPORT. How a command reaches its meaning's core: reader commands through the examination of R110, beacons through
dispatch, the end of a write to its record; and what the write queue and an abort do in their plain cases. -/

namespace Sys2Proof.Machine

/-- A reader command that the transceiver delivers is examined, whichever row of the table it is (R108 to R110). -/
theorem exec_reader {s : State} (h : s.Receives) (i : Instr) (kind : CommandKind) (f : CommandFrame) (busy : Bool)
    (hi : readerCommand i = some (kind, f, busy)) : exec i s = .next (examineCommand kind f busy (countGood s)) := by
  have hp := h.powered
  have hh := h.hears
  cases i <;> simp only [readerCommand, Option.some.injEq, Prod.mk.injEq, reduceCtorEq] at hi <;>
    obtain ⟨rfl, rfl, rfl⟩ := hi <;>
    simp [exec, execCommission, execHandover, execQueryCertA, execQueryCertB, execQueryProfile, execQueryLeg,
      execQueryEpisode, execQueryOpen, execQueryOverflow, execQueryHistory, execQueryPeers, execQueryFaults,
      execQueryStatus, execQueryBadPage, execLive, execClose, execErase, effect, receiveQuery, receiveCommand, delivered,
      hp, hh]

/-- A reader command that passes R110 is handed to its owner, with the two link counters counted. -/
theorem exec_taken {s : State} {kind : CommandKind} {f : CommandFrame} (h : s.Takes kind f) (i : Instr) (busy : Bool)
    (hi : readerCommand i = some (kind, f, busy)) :
    exec i s = .next (dispatchCommand kind (askerOf f) f.payload busy s.taken) := by
  rw [exec_reader h.receives i kind f busy hi]
  simp [examineCommand, countGood, counting, h.target, h.free, h.counted, h.short, h.fits, askerOf, State.taken]

/-- A beacon that the transceiver delivers where beacons are taken reaches the neighbour table (R109). -/
theorem exec_beacon {b : BeaconFrame} {quality : Byte} {s : State} (h : s.Receives)
    (ht : s.cu.custody.takesBeacons = true) : exec (.beacon b quality) s = .next (takeBeacon b quality s.beaconTaken) := by
  simp [exec, execBeacon, effect, delivered, h.powered, h.hears, dispatchBeacon, countGood, counting, ht,
    State.beaconTaken]

/-- The end of a write reaches the record at the head of the queue (R127, R171). -/
theorem exec_storeWriteEnd (s : State) (verified below busy : Bool) (hp : s.powered = true)
    (hw : s.es.state = .writing) (r : QueueRecord) (rest : List QueueRecord) (hq : s.es.queue = r :: rest) :
    exec (.storeWriteEnd verified below busy) s = .next (recordEnds (verified && !below) busy r s) := by
  simp [exec, execStoreWriteEnd, effect, hp, writeEnds, hw, hq]

/-! ## The write queue -/

theorem unstartedCheckpoint_iff (q : List QueueRecord) :
    unstartedCheckpoint q = true ↔ QueueRecord.checkpoint none ∈ q := by
  simp [unstartedCheckpoint, List.any_eq_true]

theorem admitCritical_of_none (s : State) (h : s.es.criticalWaiting = false) : admitCritical s = s := by
  simp [admitCritical, h]

theorem foldEpisode_queue (e : Episode) (s : State) :
    (foldEpisode e s).es.queue = s.es.queue ∧ (foldEpisode e s).es.state = s.es.state := by
  unfold foldEpisode; dsimp only; split <;> simp

/-- With nothing behind the record the store is IDLE after its write (R127). -/
theorem nextWrite_last (s : State) (r : QueueRecord) (hq : s.es.queue = [r]) :
    nextWrite s = { s with es := { s.es with state := .idle, queue := [] } } := by
  simp [nextWrite, hq, writeHead]

/-- A checkpoint in a queue that is taken up stays in it, started or not (R127, R140). -/
theorem writeHead_checkpoint (q : List QueueRecord) (s : State) (c : Option Checkpoint)
    (h : QueueRecord.checkpoint c ∈ q) : ∃ c', QueueRecord.checkpoint c' ∈ (writeHead q s).es.queue := by
  induction q generalizing s with
  | nil => cases h
  | cons r rest ih =>
    cases r with
    | episode e =>
      simp only [writeHead]; split
      · exact ih _ (by simpa using h)
      · exact ⟨c, by simpa [writing] using h⟩
    | checkpoint x => exact ⟨_, by simp [writeHead, writing]; exact Or.inl rfl⟩
    | _ => exact ⟨c, by simpa [writeHead, writing] using h⟩

/-! ## Aborts and deferred closes -/

/-- No close is deferred once the deferred one has run (R65). -/
theorem runDeferred_old (s : State) : (runDeferred s).ie.old = none := by
  unfold runDeferred; split
  · rfl
  · assumption

/-- An abort leaves the converter idle with nothing pending, and keeps its last result (R29, R30). -/
theorem abortBurst_mc (busy : Bool) (s : State) (h : s.ConverterSound) :
    (abortBurst busy s).mc = ⟨.idle, Sources.empty, s.mc.last⟩ := by
  unfold abortBurst; dsimp only
  split
  · rename_i hb
    have ht := h.idle hb
    revert hb ht
    cases s.mc
    rintro rfl rfl; rfl
  all_goals (split <;> simp)

end Sys2Proof.Machine
end

