-- ==== Sys2Proof/Laws/Exec.lean ====
section
/-! SUPPORT. What the next state of a command can be: a property of all of them from the operations they are made of. -/

namespace Sys2Proof.Machine

theorem effect_eq (f : State → State) (s : State) : effect f s = .next (if s.powered then f s else s) := rfl

/-- The state after a command, whichever it is: every command answers a next state. -/
def afterExec (i : Instr) (s : State) : State :=
  match exec i s with
  | .next t => t
  | .fault r => nomatch r
  | .refused _ => s

theorem exec_eq_next (i : Instr) (s : State) : exec i s = .next (afterExec i s) := by
  cases i <;> rfl

/-- A property of the state after any command follows from the operations that the commands are made of, each on a part
with power. -/
theorem exec_ind (P : State → Prop) (s : State) (same : P s)
    (command : ∀ kind f busy, s.powered = true → P (receiveCommand kind f busy s))
    (good : s.powered = true → s.hears = true → P (discardFrame (countGood s)))
    (bad : ∀ q, s.powered = true → s.hears = true →
      P (noteNow .crcError [q] (counting (fun c => { c with crcErrors := bump c.crcErrors }) s)))
    (beacon : ∀ b q, s.powered = true → s.hears = true → P (dispatchBeacon b q (countGood s)))
    (settling : s.powered = true → P (settlingEnds s))
    (conversion : ∀ code busy, s.powered = true → P (conversionEnds code busy s))
    (atBoundary : s.powered = true → P (boundary s))
    (atCompare : s.powered = true → P (compareMatches s))
    (due : ∀ busy, s.powered = true → P (beaconDue busy s))
    (backoff : ∀ busy next, s.powered = true → P (backoffEnds busy next s))
    (complete : ∀ busy, s.powered = true → P (transmitCompletes busy s))
    (timeout : ∀ busy, s.powered = true → P (transmitTimesOut busy s))
    (wait : ∀ busy, s.powered = true → P (waitEnds busy s))
    (write : ∀ v b busy, s.powered = true → P (writeEnds v b busy s))
    (handOver : s.powered = true → P (handOverClosing s))
    (admitted : s.powered = true → P (admitCritical s))
    (erased : ∀ busy, s.powered = true → P (eraseCompletes busy s))
    (low : s.powered = true → P (supplyFallsLow s))
    (rises : s.powered = true → P (supplyRisesGood s))
    (critical : ∀ busy, s.powered = true → P (supplyFallsCritical busy s))
    (recovers : s.powered = true → P (supplyRecovers s))
    (ready : s.powered = true → P (halts s))
    (loss : s.powered = true → P (withoutPower s))
    (on : ∀ mv, P (examineStore (poweredAt mv s)))
    (i : Instr) : P (afterExec i s) := by
  have key : ∀ f : State → State, (s.powered = true → P (f s)) →
      P (if s.powered then f s else s) := by
    intro f hf; split
    · exact hf ‹_›
    · exact same
  cases i with
  | frameReceived frame q busy =>
    refine key (delivered (receiveFrame frame q busy)) fun hp => ?_
    unfold delivered
    split
    case isFalse => exact same
    case isTrue hh =>
      unfold receiveFrame dispatchFrame
      split
      case isFalse => exact bad q hp hh
      case isTrue =>
        split
        · split
          · exact beacon _ _ hp hh
          · exact good hp hh
        · split
          · rename_i kind _
            split
            · exact good hp hh
            · have := command kind (commandOf frame) busy hp
              simpa [receiveCommand, delivered, hh] using this
          · exact good hp hh
  | beacon b q =>
    refine key (delivered (fun s => dispatchBeacon b q (countGood s))) fun hp => ?_
    unfold delivered
    split
    · exact beacon _ _ hp ‹_›
    · exact same
  | powerOn mv => exact on mv
  | settlingEnd => exact key _ settling
  | conversionEnd code busy => exact key _ (conversion code busy)
  | intervalBoundary => exact key _ atBoundary
  | compareMatch => exact key _ atCompare
  | beaconDue busy => exact key _ (due busy)
  | backoffEnd a b => exact key _ (backoff a b)
  | transmitComplete b => exact key _ (complete b)
  | transmitTimeout b => exact key _ (timeout b)
  | waitEnd b => exact key _ (wait b)
  | storeWriteEnd v b busy => exact key _ (write v b busy)
  | closingRecordHandover => exact key _ handOver
  | supplyLow => exact key _ low
  | supplyGood => exact key _ rises
  | supplyCritical b => exact key _ (critical b)
  | criticalCheckpointOffer => exact key _ admitted
  | haltReady => exact key _ ready
  | supplyRecover => exact key _ recovers
  | retentionLoss => exact key _ loss
  | eraseComplete b => exact key _ (erased b)
  | _ => exact key _ (command _ _ _)

/-- A property that every command keeps, and that the passing of time keeps, every step keeps. -/
theorem step_ind (P : State → Prop) (ofExec : ∀ i s, P s → P (afterExec i s))
    (ofQueue : ∀ s q, P s → P { s with pending := q })
    (ofInputs : ∀ s, P s → P (drawInputs s))
    (ofTimers : ∀ s, P s → P (shortenTimers s))
    (ofQuarter : ∀ s, s.tb.quarter < 3 → P s → P { s with tb := { s.tb with quarter := s.tb.quarter + 1 } })
    (ofPhase : ∀ s, s.tb.phase < 59999 → P s →
      P { s with tb := { s.tb with phase := s.tb.phase + 1, quarter := 0 } })
    {s t : State} (hs : P s) (h : step s = .next t) : P t := by
  have next : ∀ i s u, P s → exec i s = .next u → P u := by
    intro i s u hs hu
    rw [exec_eq_next] at hu
    injection hu with hu
    exact hu ▸ ofExec i s hs
  unfold step at h
  split at h
  · exact next _ _ _ (ofQueue _ _ hs) h
  · unfold tick at h
    split at h
    · split at h
      · exact next _ _ _ (ofInputs _ hs) h
      · have hs' := ofTimers _ hs
        revert h
        generalize shortenTimers s = s' at hs'
        intro h
        unfold passQuarter at h
        split at h
        · injection h with h; exact h ▸ ofQuarter _ ‹_› hs'
        · split at h
          · exact next _ _ _ hs' h
          · have := ofPhase s' (by omega) hs'
            dsimp only at h
            split at h
            · exact next _ _ _ (ofInputs _ this) h
            · injection h with h; exact h ▸ this
    · injection h with h; exact h ▸ hs

end Sys2Proof.Machine
end

