-- ==== Sys2Proof/Laws/Link.lean ====
section
/-! SUPPORT. What the transmitter's operations leave unchanged inside the link controller. -/

namespace Sys2Proof.Machine

@[simp] theorem dropped_lc (slot : Slot) (cause : DropCause) (detail : List Byte) (s : State) :
    (dropped slot cause detail s).lc.enable = s.lc.enable ∧
    (dropped slot cause detail s).lc.content = s.lc.content ∧
    (dropped slot cause detail s).lc.liveInFlight = s.lc.liveInFlight ∧
    (dropped slot cause detail s).lc.liveWaiting = s.lc.liveWaiting := by
  cases slot <;> simp [dropped, counting]

@[simp] theorem transmitterIdle_lc (s : State) :
    (transmitterIdle s).lc.enable = s.lc.enable ∧ (transmitterIdle s).lc.content = s.lc.content ∧
    (transmitterIdle s).lc.liveInFlight = s.lc.liveInFlight ∧
    (transmitterIdle s).lc.liveWaiting = s.lc.liveWaiting := by
  simp [transmitterIdle]

@[simp] theorem startTransmission_lc (s : State) :
    (startTransmission s).lc.enable = s.lc.enable ∧ (startTransmission s).lc.content = s.lc.content ∧
    (startTransmission s).lc.liveInFlight = s.lc.liveInFlight ∧
    (startTransmission s).lc.liveWaiting = s.lc.liveWaiting := by
  unfold startTransmission; repeat' split
  all_goals simp

@[simp] theorem clearSlot_lc (slot : Slot) (s : State) :
    (clearSlot slot s).lc.enable = s.lc.enable ∧ (clearSlot slot s).lc.content = s.lc.content ∧
    (clearSlot slot s).lc.liveInFlight = s.lc.liveInFlight ∧
    (clearSlot slot s).lc.liveWaiting = s.lc.liveWaiting := by
  cases slot <;> simp [clearSlot]

@[simp] theorem senseBusy_lc (s : State) :
    (senseBusy s).lc.enable = s.lc.enable ∧ (senseBusy s).lc.content = s.lc.content ∧
    (senseBusy s).lc.liveInFlight = s.lc.liveInFlight ∧ (senseBusy s).lc.liveWaiting = s.lc.liveWaiting := by
  unfold senseBusy; repeat' split
  all_goals simp [counting]

@[simp] theorem sense_lc (busy : Bool) (s : State) :
    (sense busy s).lc.enable = s.lc.enable ∧ (sense busy s).lc.content = s.lc.content ∧
    (sense busy s).lc.liveInFlight = s.lc.liveInFlight ∧ (sense busy s).lc.liveWaiting = s.lc.liveWaiting := by
  unfold sense; split <;> simp

@[simp] theorem serve_lc (busy : Bool) (s : State) :
    (serve busy s).lc.enable = s.lc.enable ∧ (serve busy s).lc.content = s.lc.content ∧
    (serve busy s).lc.liveInFlight = s.lc.liveInFlight ∧ (serve busy s).lc.liveWaiting = s.lc.liveWaiting := by
  unfold serve; repeat' split
  all_goals simp

@[simp] theorem senseAgain_lc (busy busyNext : Bool) (s : State) :
    (senseAgain busy busyNext s).lc.enable = s.lc.enable ∧
    (senseAgain busy busyNext s).lc.content = s.lc.content ∧
    (senseAgain busy busyNext s).lc.liveInFlight = s.lc.liveInFlight ∧
    (senseAgain busy busyNext s).lc.liveWaiting = s.lc.liveWaiting := by
  simp [senseAgain]

@[simp] theorem restartAttempts_lc (slot : Slot) (s : State) :
    (restartAttempts slot s).lc.enable = s.lc.enable ∧ (restartAttempts slot s).lc.content = s.lc.content ∧
    (restartAttempts slot s).lc.liveInFlight = s.lc.liveInFlight ∧
    (restartAttempts slot s).lc.liveWaiting = s.lc.liveWaiting := by
  unfold restartAttempts; split <;> simp

@[simp] theorem placeReply_lc (r : Reply) (busy : Bool) (s : State) :
    (placeReply r busy s).lc.enable = s.lc.enable ∧ (placeReply r busy s).lc.content = s.lc.content ∧
    (placeReply r busy s).lc.liveInFlight = s.lc.liveInFlight ∧
    (placeReply r busy s).lc.liveWaiting = s.lc.liveWaiting := by
  unfold placeReply; repeat' split
  all_goals simp

@[simp] theorem answer_lc (who : Asker) (status : Status) (payload : List Byte) (busy : Bool) (s : State) :
    (answer who status payload busy s).lc.enable = s.lc.enable ∧
    (answer who status payload busy s).lc.content = s.lc.content ∧
    (answer who status payload busy s).lc.liveInFlight = s.lc.liveInFlight ∧
    (answer who status payload busy s).lc.liveWaiting = s.lc.liveWaiting := by
  simp [answer]

@[simp] theorem requestBeacon_lc (kind : BeaconKind) (busy : Bool) (s : State) :
    (requestBeacon kind busy s).lc.enable = s.lc.enable ∧
    (requestBeacon kind busy s).lc.content = s.lc.content ∧
    (requestBeacon kind busy s).lc.liveInFlight = s.lc.liveInFlight ∧
    (requestBeacon kind busy s).lc.liveWaiting = s.lc.liveWaiting := by
  unfold requestBeacon; repeat' split
  all_goals simp

@[simp] theorem discardBeacon_lc (busy : Bool) (s : State) :
    (discardBeacon busy s).lc.enable = s.lc.enable ∧ (discardBeacon busy s).lc.content = s.lc.content ∧
    (discardBeacon busy s).lc.liveInFlight = s.lc.liveInFlight ∧
    (discardBeacon busy s).lc.liveWaiting = s.lc.liveWaiting := by
  unfold discardBeacon; dsimp only; split <;> simp

end Sys2Proof.Machine
end

