-- ==== Sys2Proof/Laws/Notes.lean ====
section
/-! SUPPORT. What the shared operations do to the supply monitor and fault status: they note faults and do nothing else to
it (R180). -/

namespace Sys2Proof.Machine

/-- What one note does to the fault status, whatever the rest of the state (R180). -/
def SupplyBlock.noted (code : FaultCode) (at_ : Capture) (datum : List Byte) (sf : SupplyBlock) : SupplyBlock :=
  { sf with
    sticky := sf.sticky ||| code.bit
    unread := satAdd 255 sf.unread 1
    context := match sf.context with
      | none => some ⟨code, at_.interval, at_.phase, padDatum datum⟩
      | some c => some c
    multiple := sf.multiple || sf.context.isSome }

theorem note_sf (code : FaultCode) (at_ : Capture) (datum : List Byte) (s : State) :
    (note code at_ datum s).sf = s.sf.noted code at_ datum := rfl

/-- The second fault status is the first after some notes. -/
inductive NotesOnly (a : SupplyBlock) : SupplyBlock → Prop where
  | refl : NotesOnly a a
  | tail {b : SupplyBlock} {code : FaultCode} {at_ : Capture} {datum : List Byte} :
      NotesOnly a b → NotesOnly a (b.noted code at_ datum)

theorem NotesOnly.trans {a b c : SupplyBlock} (h : NotesOnly a b) (h' : NotesOnly b c) : NotesOnly a c := by
  induction h' with
  | refl => exact h
  | tail _ ih => exact .tail ih

theorem NotesOnly.of_eq {a b c : SupplyBlock} (h : NotesOnly a b) (e : a = c) : NotesOnly c b := e ▸ h

/-- Notes leave the supply state, the activity and the halt-pending flag. -/
theorem NotesOnly.supply {a b : SupplyBlock} (h : NotesOnly a b) :
    b.supply = a.supply ∧ b.activity = a.activity ∧ b.haltPending = a.haltPending := by
  induction h with
  | refl => exact ⟨rfl, rfl, rfl⟩
  | tail _ ih => exact ih

/-- Notes only add to the sticky set. -/
theorem NotesOnly.sticky {a b : SupplyBlock} (h : NotesOnly a b) : a.sticky ||| b.sticky = b.sticky := by
  induction h with
  | refl => exact BitVec.or_self
  | tail _ ih => simp only [SupplyBlock.noted]; rw [← BitVec.or_assoc, ih]

@[simp] theorem note_notes (code : FaultCode) (at_ : Capture) (datum : List Byte) (s : State) : NotesOnly s.sf (note code at_ datum s).sf := by
  exact .tail (.refl)

@[simp] theorem noteNow_notes (code : FaultCode) (datum : List Byte) (s : State) : NotesOnly s.sf (noteNow code datum s).sf := by
  exact note_notes ..

@[simp] theorem dropped_notes (slot : Slot) (cause : DropCause) (detail : List Byte) (s : State) : NotesOnly s.sf (dropped slot cause detail s).sf := by
  cases slot <;> exact noteNow_notes ..

@[simp] theorem senseBusy_notes (s : State) : NotesOnly s.sf (senseBusy s).sf := by
  unfold senseBusy; dsimp only; repeat' split
  · exact (dropped_notes _ _ _ _).of_eq (by simp)
  · simp [NotesOnly.refl]
  · simp [NotesOnly.refl]

@[simp] theorem sense_notes (busy : Bool) (s : State) : NotesOnly s.sf (sense busy s).sf := by
  unfold sense; split <;> simp [NotesOnly.refl]

@[simp] theorem serve_notes (busy : Bool) (s : State) : NotesOnly s.sf (serve busy s).sf := by
  unfold serve; repeat' split
  · exact (sense_notes _ _).of_eq (by simp)
  · exact .refl
  · exact .refl

@[simp] theorem senseAgain_notes (busy busyNext : Bool) (s : State) : NotesOnly s.sf (senseAgain busy busyNext s).sf := by
  exact (sense_notes busy s).trans (serve_notes _ _)

@[simp] theorem placeReply_notes (r : Reply) (busy : Bool) (s : State) : NotesOnly s.sf (placeReply r busy s).sf := by
  unfold placeReply; dsimp only; repeat' split
  · refine .trans ?_ (serve_notes _ _); simp
  · exact (serve_notes _ _).of_eq (by simp)
  · exact .refl

@[simp] theorem answer_notes (who : Asker) (status : Status) (payload : List Byte) (busy : Bool) (s : State) : NotesOnly s.sf (answer who status payload busy s).sf := by
  exact placeReply_notes ..

@[simp] theorem requestBeacon_notes (kind : BeaconKind) (busy : Bool) (s : State) : NotesOnly s.sf (requestBeacon kind busy s).sf := by
  unfold requestBeacon; dsimp only; repeat' split
  · refine .trans ?_ (serve_notes _ _); simp
  · exact (serve_notes _ _).of_eq (by simp)
  · exact .refl

@[simp] theorem discardBeacon_notes (busy : Bool) (s : State) : NotesOnly s.sf (discardBeacon busy s).sf := by
  unfold discardBeacon; dsimp only; split
  · exact (serve_notes _ _).of_eq (by simp)
  · simp [NotesOnly.refl]

@[simp] theorem foldEpisode_notes (e : Episode) (s : State) : NotesOnly s.sf (foldEpisode e s).sf := by
  unfold foldEpisode; dsimp only; split
  · exact (noteNow_notes _ _ _).of_eq (by simp)
  · simp [NotesOnly.refl]

@[simp] theorem writeHead_notes (q : List QueueRecord) (s : State) : NotesOnly s.sf (writeHead q s).sf := by
  induction q generalizing s with
  | nil => simp [writeHead, NotesOnly.refl]
  | cons r rest ih =>
    cases r with
    | episode e =>
      simp only [writeHead]; split
      · exact (foldEpisode_notes e s).trans (ih _)
      · simp [NotesOnly.refl]
    | _ => simp [writeHead, NotesOnly.refl]

@[simp] theorem startWrites_notes (s : State) : NotesOnly s.sf (startWrites s).sf := by
  unfold startWrites; split <;> simp [NotesOnly.refl]

@[simp] theorem joinQueue_notes (r : QueueRecord) (s : State) : NotesOnly s.sf (joinQueue r s).sf := by
  exact (startWrites_notes _).of_eq (by simp)

@[simp] theorem admitCritical_notes (s : State) : NotesOnly s.sf (admitCritical s).sf := by
  unfold admitCritical; dsimp only; repeat' split
  · simp [NotesOnly.refl]
  · exact (joinQueue_notes _ _).of_eq (by simp)
  · exact .refl
  · exact .refl

@[simp] theorem refuseRecord_notes (r : QueueRecord) (s : State) : NotesOnly s.sf (refuseRecord r s).sf := by
  cases r with
  | episode e => exact (noteNow_notes _ _ s).trans (foldEpisode_notes _ _)
  | _ => exact noteNow_notes ..

@[simp] theorem offer_notes (r : QueueRecord) (s : State) : NotesOnly s.sf (offer r s).sf := by
  refine (admitCritical_notes s).trans ?_
  unfold offer; dsimp only; repeat' split
  · exact .refl
  · exact joinQueue_notes ..
  · exact refuseRecord_notes ..

@[simp] theorem offerAll_notes (rs : List QueueRecord) (s : State) : NotesOnly s.sf (offerAll rs s).sf := by
  induction rs generalizing s with
  | nil => exact .refl
  | cons r rest ih => exact (offer_notes r s).trans (ih _)

@[simp] theorem nextWrite_notes (s : State) : NotesOnly s.sf (nextWrite s).sf := by
  unfold nextWrite; split <;> simp [NotesOnly.refl]

end Sys2Proof.Machine
end

