-- ==== Sys2Proof/Laws/MeaningNotes.lean ====
section
/-! SUPPORT. The commands' own operations note faults and do nothing else to the supply monitor and fault status (R180),
but for the ones that a rule names: the FAULTS query, the supply's changes, the halt, the erase, and power. -/

namespace Sys2Proof.Machine

theorem applyConsensus_notes (ev : Evidence) (c : Consensus) (s : State) : NotesOnly s.sf (applyConsensus ev c s).sf := by
  unfold applyConsensus
  try dsimp only
  repeat' split
  all_goals
    repeat' first
      | with_reducible exact .refl
      | with_reducible refine .trans ?_ (noteNow_notes ..)

theorem addCauses_notes (new : Causes) (n : Nat) (s : State) : NotesOnly s.sf (addCauses new n s).sf := by
  unfold addCauses
  try dsimp only
  repeat' split
  all_goals
    repeat' first
      | with_reducible exact .refl
      | with_reducible refine .trans ?_ (offer_notes ..)

theorem precoolStage_notes (p b : Bool) (n : Nat) (s : State) : NotesOnly s.sf (precoolStage p b n s).sf := by
  unfold precoolStage
  try dsimp only
  repeat' split
  all_goals
    repeat' first
      | with_reducible exact .refl
      | with_reducible refine .trans ?_ (addCauses_notes ..)

theorem custodyStage_notes (own : Charges) (found : Causes) (n : Nat) (s : State) : NotesOnly s.sf (custodyStage own found n s).sf := by
  unfold custodyStage
  try dsimp only
  repeat' split
  all_goals
    repeat' first
      | with_reducible exact .refl
      | with_reducible refine .trans ?_ (addCauses_notes ..)

theorem episodeStage_notes (n : Nat) (ev : Evidence) (c : Charged) (s : State) : NotesOnly s.sf (episodeStage n ev c s).sf := by
  unfold episodeStage
  try dsimp only
  all_goals
    repeat' first
      | with_reducible exact .refl
      | with_reducible refine .trans ?_ (offerAll_notes ..)

theorem handOn_notes (p : Bool) (acc : Accumulator) (ev : Evidence) (raised : Bool) (s : State) : NotesOnly s.sf (handOn p acc ev raised s).sf := by
  unfold handOn
  try dsimp only
  repeat' split
  all_goals
    repeat' first
      | with_reducible exact .refl
      | with_reducible refine .trans ?_ (offer_notes ..)

theorem afterRecord_notes (p : Bool) (acc : Accumulator) (s : State) : NotesOnly s.sf (afterRecord p acc s).sf := by
  rw [(afterRecord_frame p acc s).2.2.2.2.2.2.2.2.1]
  exact applyConsensus_notes ..

theorem afterEpisodes_notes (p : Bool) (acc : Accumulator) (s : State) : NotesOnly s.sf (afterEpisodes p acc s).sf := by
  unfold afterEpisodes
  split
  · exact (afterRecord_notes p acc s).trans (episodeStage_notes ..)
  · exact afterRecord_notes ..

theorem afterCustody_notes (p : Bool) (acc : Accumulator) (s : State) : NotesOnly s.sf (afterCustody p acc s).sf := by
  unfold afterCustody
  dsimp only
  split
  · exact (afterEpisodes_notes p acc s).trans (custodyStage_notes ..)
  · exact (afterEpisodes_notes p acc s).trans (precoolStage_notes ..)

theorem closeInterval_notes (p : Bool) (acc : Accumulator) (s : State) : NotesOnly s.sf (closeInterval p acc s).sf :=
  (afterCustody_notes p acc s).trans (handOn_notes ..)

theorem runDeferred_notes (s : State) : NotesOnly s.sf (runDeferred s).sf := by
  unfold runDeferred
  try dsimp only
  repeat' split
  all_goals
    repeat' first
      | with_reducible exact .refl
      | with_reducible refine .trans ?_ (closeInterval_notes ..)

theorem partialCloseNow_notes (s : State) : NotesOnly s.sf (partialCloseNow s).sf := by
  unfold partialCloseNow
  try dsimp only
  repeat' split
  all_goals
    repeat' first
      | with_reducible exact .refl
      | with_reducible refine .trans ?_ (closeInterval_notes ..)

theorem boundaryToExposure_notes (s : State) : NotesOnly s.sf (boundaryToExposure s).sf := by
  unfold boundaryToExposure
  try dsimp only
  repeat' split
  all_goals
    repeat' first
      | with_reducible exact .refl
      | with_reducible refine .trans ?_ (runDeferred_notes ..)

theorem acceptCommission_notes (who : Asker) (r : ProfileRecord) (s : State) : NotesOnly s.sf (acceptCommission who r s).sf := by
  unfold acceptCommission
  try dsimp only
  all_goals
    repeat' first
      | with_reducible exact .refl
      | with_reducible refine .trans ?_ (offer_notes ..)

theorem takeCommission_notes (who : Asker) (payload : List Byte) (busy : Bool) (s : State) : NotesOnly s.sf (takeCommission who payload busy s).sf := by
  unfold takeCommission
  try dsimp only
  repeat' split
  all_goals
    repeat' first
      | with_reducible exact .refl
      | with_reducible refine .trans ?_ (acceptCommission_notes ..)
      | with_reducible refine .trans ?_ (answer_notes ..)

theorem openNextLeg_notes (l : Leg) (a b : Nat) (r : Serial) (s : State) : NotesOnly s.sf (openNextLeg l a b r s).sf := by
  unfold openNextLeg
  try dsimp only
  all_goals
    repeat' first
      | with_reducible exact .refl
      | with_reducible refine .trans ?_ (offer_notes ..)

theorem takeHandover_notes (who : Asker) (payload : List Byte) (busy : Bool) (s : State) : NotesOnly s.sf (takeHandover who payload busy s).sf := by
  unfold takeHandover; dsimp only
  repeat' split
  case h_1 l _ =>
    refine .trans ?_ (answer_notes ..)
    rcases judgeHandover_frame l (fieldAt payload 0 2) (fieldAt payload 2 2) (fieldAt payload 4 1) who.reader s with h | h <;>
      rw [h]
    · exact .refl
    · exact openNextLeg_notes ..
  all_goals
    repeat' first
      | with_reducible exact .refl
      | with_reducible refine .trans ?_ (answer_notes ..)

theorem answerPage_notes (who : Asker) (page : Nat) (payload : List Byte) (busy : Bool) (s : State) : NotesOnly s.sf (answerPage who page payload busy s).sf := by
  unfold answerPage
  try dsimp only
  all_goals
    repeat' first
      | with_reducible exact .refl
      | with_reducible refine .trans ?_ (placeReply_notes ..)

theorem answerIndexed_notes (who : Asker) (page : Nat) (payload : Option (List Byte)) (busy : Bool) (s : State) : NotesOnly s.sf (answerIndexed who page payload busy s).sf := by
  unfold answerIndexed
  try dsimp only
  repeat' split
  all_goals
    repeat' first
      | with_reducible exact .refl
      | with_reducible refine .trans ?_ (answerPage_notes ..)
      | with_reducible refine .trans ?_ (answer_notes ..)

theorem recordLive_notes (who : Asker) (s : State) : NotesOnly s.sf (recordLive who s).sf := by
  unfold recordLive
  try dsimp only
  repeat' split
  all_goals
    repeat' first
      | with_reducible exact .refl
      | with_reducible refine .trans ?_ (dropped_notes ..)

theorem takeLive_notes (who : Asker) (busy : Bool) (s : State) : NotesOnly s.sf (takeLive who busy s).sf := by
  unfold takeLive
  try dsimp only
  repeat' split
  all_goals
    repeat' first
      | with_reducible exact .refl
      | with_reducible refine .trans ?_ (recordLive_notes ..)
      | with_reducible refine .trans ?_ (answer_notes ..)
      | simp

theorem abortLive_notes (busy : Bool) (s : State) : NotesOnly s.sf (abortLive busy s).sf := by
  unfold abortLive
  try dsimp only
  repeat' split
  all_goals
    repeat' first
      | with_reducible exact .refl
      | with_reducible refine .trans ?_ (answer_notes ..)
      | with_reducible refine .trans ?_ (dropped_notes ..)

theorem abortBurst_notes (busy : Bool) (s : State) : NotesOnly s.sf (abortBurst busy s).sf := by
  unfold abortBurst
  try dsimp only
  repeat' split
  all_goals
    repeat' first
      | with_reducible exact .refl
      | with_reducible refine .trans ?_ (abortLive_notes ..)

theorem enterClosing_notes (who : Asker) (busy : Bool) (s : State) : NotesOnly s.sf (enterClosing who busy s).sf := by
  unfold enterClosing
  try dsimp only
  all_goals
    repeat' first
      | with_reducible exact .refl
      | with_reducible refine .trans ?_ (discardBeacon_notes ..)

theorem acceptClose_notes (who : Asker) (busy : Bool) (s : State) : NotesOnly s.sf (acceptClose who busy s).sf := by
  unfold acceptClose
  try dsimp only
  all_goals
    repeat' first
      | with_reducible exact .refl
      | with_reducible refine .trans ?_ (enterClosing_notes ..)
      | with_reducible refine .trans ?_ (abortBurst_notes ..)
      | with_reducible refine .trans ?_ (partialCloseNow_notes ..)
      | with_reducible refine .trans ?_ (runDeferred_notes ..)

theorem takeClose_notes (who : Asker) (busy : Bool) (s : State) : NotesOnly s.sf (takeClose who busy s).sf := by
  unfold takeClose
  try dsimp only
  repeat' split
  all_goals
    repeat' first
      | with_reducible exact .refl
      | with_reducible refine .trans ?_ (acceptClose_notes ..)
      | with_reducible refine .trans ?_ (answerPage_notes ..)
      | with_reducible refine .trans ?_ (answer_notes ..)

theorem takeErase_notes (who : Asker) (busy : Bool) (s : State) : NotesOnly s.sf (takeErase who busy s).sf := by
  unfold takeErase
  try dsimp only
  repeat' split
  all_goals
    repeat' first
      | with_reducible exact .refl
      | with_reducible refine .trans ?_ (answer_notes ..)
      | simp

theorem noteAll_notes (at_ : Capture) (ns : List SensorNote) (s : State) : NotesOnly s.sf (noteAll at_ ns s).sf := by
  induction ns generalizing s with
  | nil => exact .refl
  | cons x rest ih => exact (note_notes ..).trans (ih _)

theorem riseEvent_notes (busy : Bool) (n : Nat) (s : State) : NotesOnly s.sf (riseEvent busy n s).sf := by
  unfold riseEvent
  try dsimp only
  repeat' split
  all_goals
    repeat' first
      | with_reducible exact .refl
      | with_reducible refine .trans ?_ (requestBeacon_notes ..)
      | simp

theorem riseDetect_notes (busy : Bool) (r : BurstResult) (s : State) : NotesOnly s.sf (riseDetect busy r s).sf := by
  unfold riseDetect
  try dsimp only
  repeat' split
  all_goals
    repeat' first
      | with_reducible exact .refl
      | with_reducible refine .trans ?_ (riseEvent_notes ..)

theorem deliverToExposure_notes (r : BurstResult) (s : State) : NotesOnly s.sf (deliverToExposure r s).sf := by
  unfold deliverToExposure
  try dsimp only
  repeat' split
  all_goals
    repeat' first
      | with_reducible exact .refl
      | with_reducible refine .trans ?_ (runDeferred_notes ..)

theorem answerLive_notes (busy : Bool) (r : BurstResult) (s : State) : NotesOnly s.sf (answerLive busy r s).sf := by
  unfold answerLive
  try dsimp only
  repeat' split
  all_goals
    repeat' first
      | with_reducible exact .refl
      | with_reducible refine .trans ?_ (answer_notes ..)

theorem deliver_notes (busy : Bool) (r : BurstResult) (s : State) : NotesOnly s.sf (deliver busy r s).sf := by
  unfold deliver
  try dsimp only
  repeat' split
  all_goals
    repeat' first
      | with_reducible exact .refl
      | with_reducible refine .trans ?_ (answerLive_notes ..)
      | with_reducible refine .trans ?_ (deliverToExposure_notes ..)
      | with_reducible refine .trans ?_ (riseDetect_notes ..)

theorem completeBurst_notes (busy : Bool) (f : Flight) (codes : List Nat) (s : State) : NotesOnly s.sf (completeBurst busy f codes s).sf := by
  unfold completeBurst
  try dsimp only
  all_goals
    repeat' first
      | with_reducible exact .refl
      | with_reducible refine .trans ?_ (deliver_notes ..)
      | with_reducible refine .trans ?_ (noteAll_notes ..)
      | simp

theorem conversionEnds_notes (code : Code) (busy : Bool) (s : State) : NotesOnly s.sf (conversionEnds code busy s).sf := by
  unfold conversionEnds
  try dsimp only
  repeat' split
  all_goals
    repeat' first
      | with_reducible exact .refl
      | with_reducible refine .trans ?_ (completeBurst_notes ..)

theorem enterBeacon_notes (b : BeaconFrame) (quality : Byte) (s : State) : NotesOnly s.sf (enterBeacon b quality s).sf := by
  unfold enterBeacon
  split
  · exact .refl
  · exact noteNow_notes ..

theorem takeBeacon_notes (b : BeaconFrame) (quality : Byte) (s : State) : NotesOnly s.sf (takeBeacon b quality s).sf := by
  unfold takeBeacon
  dsimp only
  repeat' split
  · exact noteNow_notes ..
  · exact (enterBeacon_notes b quality s).trans (NotesOnly.refl.of_eq (by simp))
  · exact enterBeacon_notes ..

theorem dispatchBeacon_notes (b : BeaconFrame) (quality : Byte) (s : State) : NotesOnly s.sf (dispatchBeacon b quality s).sf := by
  unfold dispatchBeacon
  try dsimp only
  repeat' split
  all_goals
    repeat' first
      | with_reducible exact .refl
      | with_reducible refine .trans ?_ (takeBeacon_notes ..)
      | simp

theorem beaconDue_notes (busy : Bool) (s : State) : NotesOnly s.sf (beaconDue busy s).sf := by
  unfold beaconDue
  try dsimp only
  repeat' split
  all_goals
    repeat' first
      | with_reducible exact .refl
      | with_reducible refine .trans ?_ (requestBeacon_notes ..)
      | simp

theorem backoffEnds_notes (busy n : Bool) (s : State) : NotesOnly s.sf (backoffEnds busy n s).sf := by
  unfold backoffEnds
  try dsimp only
  repeat' split
  all_goals
    repeat' first
      | with_reducible exact .refl
      | with_reducible refine .trans ?_ (senseAgain_notes ..)

theorem transmitCompletes_notes (busy : Bool) (s : State) : NotesOnly s.sf (transmitCompletes busy s).sf := by
  unfold transmitCompletes
  try dsimp only
  repeat' split
  all_goals
    repeat' first
      | with_reducible exact .refl
      | with_reducible refine .trans ?_ (serve_notes ..)
      | simp

theorem transmitTimesOut_notes (busy : Bool) (s : State) : NotesOnly s.sf (transmitTimesOut busy s).sf := by
  unfold transmitTimesOut
  try dsimp only
  repeat' split
  all_goals
    repeat' first
      | with_reducible exact .refl
      | with_reducible refine .trans ?_ (serve_notes ..)
      | with_reducible refine .trans ?_ (dropped_notes ..)
      | simp

theorem waitEnds_notes (busy : Bool) (s : State) : NotesOnly s.sf (waitEnds busy s).sf := by
  unfold waitEnds
  try dsimp only
  repeat' split
  all_goals
    repeat' first
      | with_reducible exact .refl
      | with_reducible refine .trans ?_ (serve_notes ..)
      | simp

theorem boundary_notes (s : State) : NotesOnly s.sf (boundary s).sf := by
  unfold boundary
  try dsimp only
  repeat' split
  all_goals
    repeat' first
      | with_reducible exact .refl
      | with_reducible refine .trans ?_ (boundaryToExposure_notes ..)
      | simp

theorem compareMatches_notes (s : State) : NotesOnly s.sf (compareMatches s).sf := by
  unfold compareMatches
  try dsimp only
  repeat' split
  all_goals
    repeat' first
      | with_reducible exact .refl
      | simp

theorem answerHeld_notes (held : Option Asker) (status : Status) (page : Nat) (payload : List Byte) (busy : Bool) (s : State) : NotesOnly s.sf (answerHeld held status page payload busy s).sf := by
  unfold answerHeld
  try dsimp only
  repeat' split
  all_goals
    repeat' first
      | with_reducible exact .refl
      | with_reducible refine .trans ?_ (placeReply_notes ..)

theorem profileWritten_notes (r : ProfileRecord) (busy : Bool) (s : State) : NotesOnly s.sf (profileWritten r busy s).sf := by
  unfold profileWritten
  try dsimp only
  all_goals
    repeat' first
      | with_reducible exact .refl
      | with_reducible refine .trans ?_ (answerHeld_notes ..)
      | simp

theorem profileFailed_notes (busy : Bool) (s : State) : NotesOnly s.sf (profileFailed busy s).sf := by
  unfold profileFailed
  try dsimp only
  all_goals
    repeat' first
      | with_reducible exact .refl
      | with_reducible refine .trans ?_ (answerHeld_notes ..)

theorem certificateEnds_notes (ok : Bool) (c : Certificate) (busy : Bool) (s : State) : NotesOnly s.sf (certificateEnds ok c busy s).sf := by
  unfold certificateEnds
  try dsimp only
  repeat' split
  all_goals
    repeat' first
      | with_reducible exact .refl
      | with_reducible refine .trans ?_ (answerHeld_notes ..)

theorem recordEnds_notes (ok busy : Bool) (r : QueueRecord) (s : State) : NotesOnly s.sf (recordEnds ok busy r s).sf := by
  have h1 : NotesOnly s.sf (if ok then s else noteNow .storeFail r.datum s).sf := by
    split
    · exact .refl
    · exact noteNow_notes ..
  unfold recordEnds; dsimp only
  revert h1; generalize (if ok then s else noteNow .storeFail r.datum s) = s1; intro h1
  refine h1.trans ?_
  cases r with
  | profile p =>
    dsimp only; split
    · exact (nextWrite_notes s1).trans (profileWritten_notes ..)
    · exact (nextWrite_notes s1).trans (profileFailed_notes ..)
  | episode e =>
    dsimp only; refine .trans ?_ (nextWrite_notes ..)
    split
    · exact NotesOnly.refl.of_eq (by simp)
    · exact foldEpisode_notes ..
  | leg l => exact (NotesOnly.refl.of_eq (by simp)).trans (nextWrite_notes ..)
  | checkpoint c => exact (NotesOnly.refl.of_eq (by simp)).trans (nextWrite_notes ..)
  | certificate c => exact (nextWrite_notes s1).trans (certificateEnds_notes ..)

theorem writeEnds_notes (v b busy : Bool) (s : State) : NotesOnly s.sf (writeEnds v b busy s).sf := by
  unfold writeEnds
  try dsimp only
  repeat' split
  all_goals
    repeat' first
      | with_reducible exact .refl
      | with_reducible refine .trans ?_ (recordEnds_notes ..)

theorem handOverClosing_notes (s : State) : NotesOnly s.sf (handOverClosing s).sf := by
  unfold handOverClosing
  try dsimp only
  repeat' split
  all_goals
    repeat' first
      | with_reducible exact .refl
      | with_reducible refine .trans ?_ (offer_notes ..)

theorem offerCritical_notes (s : State) : NotesOnly s.sf (offerCritical s).sf := by
  unfold offerCritical
  try dsimp only
  repeat' split
  all_goals
    repeat' first
      | with_reducible exact .refl
      | with_reducible refine .trans ?_ (admitCritical_notes ..)

end Sys2Proof.Machine
end

