-- ==== Sys2Proof/Laws/Transmission.lean ====
section
/-! SUPPORT. When the transceiver delivers in SENDING, and how a transmission under way goes on through the acceptance of
a CLOSE (R13, R118). -/

namespace Sys2Proof.Machine

/-! ## Delivery -/

/-- Outside SENDING no own frame is on the air. -/
theorem ownFrameOnAir_of_not_sending {s : State} (h : s.lc.tx ≠ .sending) : s.ownFrameOnAir = false := by
  unfold State.ownFrameOnAir; split <;> simp_all

/-- In SENDING the own frame is on the air as the free value says (log 51). -/
theorem ownFrameOnAir_of_sending {s : State} {a : OnAir} (h : s.lc.tx = .sending) (ha : s.lc.onAir = some a) :
    s.ownFrameOnAir = Config.freeOnAir a.frame s.now s.timers.tx := by
  simp [State.ownFrameOnAir, h, ha]

/-- A frame that the transceiver does not deliver has no effect. -/
theorem delivered_of_not_hears (f : State → State) {s : State} (h : s.hears = false) : delivered f s = s := by
  simp [delivered, h]

/-! ## The transmitter's period through the write queue's operations -/

@[simp] theorem writeHead_timersTx (q : List QueueRecord) (s : State) : (writeHead q s).timers.tx = s.timers.tx := by
  induction q generalizing s with
  | nil => simp [writeHead]
  | cons r rest ih =>
    cases r <;> simp only [writeHead] <;> try (simp [writing]; done)
    split
    · simp [ih]
    · simp [writing]

@[simp] theorem startWrites_timersTx (s : State) : (startWrites s).timers.tx = s.timers.tx := by
  unfold startWrites; split <;> simp

@[simp] theorem joinQueue_timersTx (r : QueueRecord) (s : State) : (joinQueue r s).timers.tx = s.timers.tx := by
  simp [joinQueue]

@[simp] theorem admitCritical_timersTx (s : State) : (admitCritical s).timers.tx = s.timers.tx := by
  unfold admitCritical; dsimp only; repeat' split
  all_goals simp

@[simp] theorem offer_timersTx (r : QueueRecord) (s : State) : (offer r s).timers.tx = s.timers.tx := by
  unfold offer; dsimp only; repeat' split
  all_goals simp

@[simp] theorem offerAll_timersTx (rs : List QueueRecord) (s : State) : (offerAll rs s).timers.tx = s.timers.tx := by
  induction rs generalizing s with
  | nil => rfl
  | cons r rest ih => simp [offerAll, ih]

@[simp] theorem addCauses_timersTx (new : Causes) (n : Nat) (s : State) :
    (addCauses new n s).timers.tx = s.timers.tx := by
  unfold addCauses; repeat' split
  all_goals simp

@[simp] theorem afterEpisodes_timersTx (p : Bool) (acc : Accumulator) (s : State) :
    (afterEpisodes p acc s).timers.tx = s.timers.tx := by
  unfold afterEpisodes episodeStage; split <;> simp

@[simp] theorem custodyStage_timersTx (own : Charges) (found : Causes) (n : Nat) (s : State) :
    (custodyStage own found n s).timers.tx = s.timers.tx := by
  unfold custodyStage; dsimp only; split <;> simp

@[simp] theorem precoolStage_timersTx (p starts : Bool) (n : Nat) (s : State) :
    (precoolStage p starts n s).timers.tx = s.timers.tx := by
  unfold precoolStage; dsimp only; split
  · rfl
  · split
    · rfl
    · split <;> simp

@[simp] theorem afterCustody_timersTx (p : Bool) (acc : Accumulator) (s : State) :
    (afterCustody p acc s).timers.tx = s.timers.tx := by
  unfold afterCustody; dsimp only; split <;> simp

@[simp] theorem closeInterval_timersTx (p : Bool) (acc : Accumulator) (s : State) :
    (closeInterval p acc s).timers.tx = s.timers.tx := by
  simp only [closeInterval, handOn]; split <;> simp

/-! ## A transmission under way -/

/-- The transmission under way in one state is under way in the other, and no beacon has been counted as sent or
dropped (R118). -/
structure TransmissionKept (s t : State) : Prop where
  tx : t.lc.tx = s.lc.tx
  served : t.lc.served = s.lc.served
  onAir : t.lc.onAir = s.lc.onAir
  period : t.timers.tx = s.timers.tx
  sequence : t.lc.sequence = s.lc.sequence
  dropped : t.lc.counters.beaconsDropped = s.lc.counters.beaconsDropped
  sent : t.lc.counters.beaconsSent = s.lc.counters.beaconsSent

theorem TransmissionKept.refl (s : State) : TransmissionKept s s := ⟨rfl, rfl, rfl, rfl, rfl, rfl, rfl⟩

theorem TransmissionKept.trans {s t u : State} (h : TransmissionKept s t) (g : TransmissionKept t u) :
    TransmissionKept s u :=
  ⟨g.tx.trans h.tx, g.served.trans h.served, g.onAir.trans h.onAir, g.period.trans h.period,
    g.sequence.trans h.sequence, g.dropped.trans h.dropped, g.sent.trans h.sent⟩

/-- A reply placed in SENDING waits in its slot (R115). -/
theorem placeReply_transmission (r : Reply) (busy : Bool) {s : State} (h : s.lc.tx = .sending) :
    TransmissionKept s (placeReply r busy s) := by
  unfold placeReply; split
  · cases hr : s.lc.replySlot <;> constructor <;> simp [serve, h, restartAttempts, dropped, counting]
  · exact .refl s

theorem abortLive_transmission (busy : Bool) {s : State} (h : s.lc.tx = .sending) :
    TransmissionKept s (abortLive busy s) := by
  let gone : State := { s with lc := { s.lc with liveInFlight := none, liveWaiting := none } }
  have placed : ∀ w, TransmissionKept s (answer w .aborted [] busy gone) := fun w =>
    (⟨rfl, rfl, rfl, rfl, rfl, rfl, rfl⟩ : TransmissionKept s gone).trans (placeReply_transmission _ _ h)
  have counted : ∀ d u, TransmissionKept u (dropped .reply .replaced d u) := fun d u => by
    constructor <;> simp [dropped, counting]
  unfold abortLive; dsimp only; split
  · exact (placed _).trans (counted _ _)
  · exact placed _
  · exact placed _
  · exact .refl s

theorem abortBurst_transmission (busy : Bool) {s : State} (h : s.lc.tx = .sending) :
    TransmissionKept s (abortBurst busy s) := by
  let idle : State := { s with mc := { s.mc with burst := .idle, triggers := Sources.empty } }
  have hi : TransmissionKept s idle := ⟨rfl, rfl, rfl, rfl, rfl, rfl, rfl⟩
  unfold abortBurst; dsimp only; split
  · exact .refl s
  all_goals
    split
    · exact hi.trans (abortLive_transmission busy (s := idle) h)
    · exact hi

theorem closeInterval_transmission (p : Bool) (acc : Accumulator) (s : State) :
    TransmissionKept s (closeInterval p acc s) := by
  obtain ⟨c, hc⟩ := closeInterval_lc p acc s
  constructor <;> simp [hc]

theorem runDeferred_transmission (s : State) : TransmissionKept s (runDeferred s) := by
  unfold runDeferred; split
  · exact (closeInterval_transmission ..).trans ⟨rfl, rfl, rfl, rfl, rfl, rfl, rfl⟩
  · exact .refl s

theorem partialCloseNow_transmission (s : State) : TransmissionKept s (partialCloseNow s) := by
  unfold partialCloseNow; split
  · exact (closeInterval_transmission ..).trans ⟨rfl, rfl, rfl, rfl, rfl, rfl, rfl⟩
  · exact .refl s

theorem enterClosing_transmission (who : Asker) (busy : Bool) {s : State} (h : s.lc.tx = .sending) :
    TransmissionKept s (enterClosing who busy s) := by
  constructor <;> simp [enterClosing, discardBeacon, clearSlot, h]

end Sys2Proof.Machine
end

