-- ==== Sys2Proof/WellFormed.lean ====
section
/-! DEFINITION. Which terms of `Instr` spell a command that can reach the part. -/

namespace Sys2Proof

/-- A command is well formed when its operands can come from outside as its row says: QUERY_BAD_PAGE carries a page
code of 0 or above 11 (R151), and a frame that one transceiver delivery can hold with a one-byte length field has at
most 255 payload bytes. Everything else an operand can hold is judged by the part itself (R108 to R110). -/
def Instr.wellFormed : Instr → Bool
  | .commission f _ | .handover f _ | .live f _ | .close f _ | .erase f _ => f.payload.length ≤ 255
  | .queryBadPage _ page _ => page = 0 || 11 < page.toNat
  | .queryCertA _ _ | .queryCertB _ _ | .queryProfile _ _ | .queryLeg _ _ | .queryEpisode _ _ | .queryOpen _ _
  | .queryOverflow _ _ | .queryHistory _ _ | .queryPeers _ _ | .queryFaults _ _ | .queryStatus _ _ => true
  | .eraseComplete _ | .frameReceived _ _ _ | .beacon _ _ | .settlingEnd | .conversionEnd _ _ => true
  | .intervalBoundary | .compareMatch | .beaconDue _ | .backoffEnd _ _ | .transmitComplete _ => true
  | .transmitTimeout _ | .waitEnd _ | .storeWriteEnd _ _ _ | .closingRecordHandover => true
  | .supplyLow | .supplyGood | .supplyCritical _ | .criticalCheckpointOffer | .haltReady | .supplyRecover => true
  | .retentionLoss | .powerOn _ => true

end Sys2Proof
end

