-- ==== Sys2Proof/Tests/Slice0.lean ====
section
/-! SUPPORT. Tests: ill-formed terms, the spec's worked examples, and for every statement with hypotheses a state that
meets them. -/

namespace Sys2Proof.Tests

open Sys2Proof Sys2Proof.Machine

/-! ## Small states -/

/-- The state that a command leaves. -/
def after (i : Instr) (s : State) : State :=
  match exec i s with
  | .next t => t
  | _ => s

/-- The profile of chapter 4's worked sequence "a bridged gap", with compartment 7 and carrier 40. -/
def roundProfile : Profile where
  upper := 500
  lower := 0
  peak := 1000
  warmBudget := 3000
  coldBudget := 3000
  gapAllowance := 2
  precoolLimit := 30
  airUse := false
  witnessUse := false
  airMargin := 50
  witnessMargin := 30
  qualityFloor := 40
  riseThreshold := 100
  disagreement := 100
  compartment := 7
  carrier := 40

/-- A consignment under that profile. -/
def record : ProfileRecord := ⟨roundProfile, [0x41, 0x42]⟩

/-- The reader of the tests. -/
def reader : Serial := 0x5100002F

/-- The serial of the part of the tests. -/
def own : Serial := 0x00A10040

/-- Leg 2 of chapter 8's worked sequence "a cross-dock with a lost reply". -/
def leg2 : Leg := ⟨2, 7, 40, 1180, none, none, ⟨0, 0⟩, 0, 0, 0, 0, 0x5100000A⟩

/-- An accumulator of interval `n` with both figures measured by the probe. -/
def measured (n : Nat) (hi lo : Int) : Accumulator := ⟨n, some ⟨hi, lo⟩, 2, none, 0, 2, ⟨true, false, false⟩⟩

/-- A neighbour in compartment 7, heard in interval `n`. -/
def peer (serial : Serial) (n age quality : Nat) : Peer :=
  ⟨serial, 7, 1, some ⟨488, 455⟩, .own, 3, false, false, false, false, quality, ⟨n, 10⟩, none, age⟩

/-- A table that holds one neighbour. -/
def oneNeighbour (n : Nat) : List (Option Peer) := some (peer 0x00A10033 n 0 120) :: List.replicate 23 none

/-- A part CHILLED in interval `n`, idle, with leg 2 open and one neighbour heard. -/
def chilled (n : Nat) : State :=
  { State.reset with
    cu := { State.reset.cu with custody := .chilled, custodyStart := some 3, commissioned := some record }
    tb := { State.reset.tb with interval := n, phase := 14200, compare := some 30000 }
    ie := { State.reset.ie with
      cur := some (Accumulator.empty n), exposure := ⟨400, 0⟩, before := some ⟨480, 455⟩, lastClosed := some (n - 1) }
    nt := oneNeighbour n
    lc := { State.reset.lc with tx := .idle }
    es := { State.reset.es with openLeg := some leg2, legCount := 2 }
    nv := { State.reset.nv with profile := some record }
    timers := ⟨0, 0, 0⟩ }

/-- The same part in another custody state. -/
def inCustodyState (c : Custody) : State := { chilled 61 with cu := { (chilled 61).cu with custody := c } }

/-- A certificate record. -/
def cert : Certificate :=
  ⟨own, [0x41, 0x42], 40, .clean, false, some 3, some 60, ⟨false, false, false, false, false, false⟩, none, ⟨400, 0⟩,
    ⟨3000, 3000⟩, ⟨58, 0, 0, 0, 0, 0, 0⟩, 0, some ⟨480, 455⟩, 2, 0, 0, 0⟩

/-- The part CLOSED, its certificate written. -/
def closed : State :=
  { chilled 61 with
    cu := { (chilled 61).cu with custody := .closed, certificate := some cert }
    ie := { (chilled 61).ie with cur := none }
    nt := emptyTable
    es := { (chilled 61).es with openLeg := none }
    nv := { (chilled 61).nv with certificate := some cert } }

/-- The part with a burst of interval 61 in flight. -/
def bursting (sources : Sources) (credit air : Bool) (codes : List Code) : State :=
  { chilled 61 with mc := ⟨.converting ⟨⟨61, 10⟩, sources, credit, air⟩ codes, ⟨false, false, false⟩, none⟩ }

/-- The part with a store that writes the head of a queue. -/
def writingQueue (q : List QueueRecord) : State :=
  { chilled 61 with es := { (chilled 61).es with state := .writing, queue := q }, timers := ⟨0, 0, 32⟩ }

/-- The part with a transmitter at work. -/
def sendingOn (tx : TxState) (slot : Slot) : State :=
  { chilled 61 with
    lc := { (chilled 61).lc with tx := tx, served := some slot, attempts := 1 }
    timers := ⟨0, 40, 0⟩ }

/-- The part at a supply level. -/
def atSupply (supply : Supply) (activity : Activity) (halt : Bool) : State :=
  { chilled 61 with
    tb := { (chilled 61).tb with mode := .lean, buffer := 60000 }
    lc := { (chilled 61).lc with enable := decide (activity = .running ∧ halt = false) }
    sf := { (chilled 61).sf with supply := supply, activity := activity, haltPending := halt } }

/-- An episode record. -/
def episode (kind : EpisodeKind) (start : Nat) (finish : Option Nat) (charges : Option Charges) : Episode :=
  ⟨kind, none, 2, start, finish, 1, 560, 510, charges, 0, 0, none, ⟨false, false, false, false, false, false⟩, false⟩

/-- A command frame to the part of the tests. -/
def frame (payload : List Byte) : CommandFrame := ⟨reader, own, 1, BitVec.ofNat 8 payload.length, payload⟩

/-- A QUERY frame to the part of the tests. -/
def query (index : Byte) : QueryFrame := ⟨reader, own, 1, index⟩

/-- A beacon from a tag in compartment 7. -/
def beacon (sender : Serial) (flags : Byte) : BeaconFrame := ⟨sender, 7, 1, 60, 488, 455, 1, 3, flags, 9⟩

/-- The payload of chapter 1's worked example of profile checking. -/
def sentProfile : List Byte :=
  [8, 1, 2, 3, 4, 5, 6, 7, 8] ++ tempBytes 3200 ++ tempBytes (-100) ++ tempBytes 500 ++ beBytes 4 2000000
    ++ beBytes 4 0 ++ [20, 0, 3] ++ tempBytes 400 ++ tempBytes 30 ++ [40] ++ tempBytes 5 ++ tempBytes 600
    ++ beBytes 2 12 ++ beBytes 2 40

/-! ## Ill-formed terms -/

/-- A payload longer than a one-byte length field can count is no command frame. -/
theorem test_wellFormed_refuses_long_payload :
    let long := frame (List.replicate 256 0)
    (Instr.commission long false).wellFormed = false ∧ (Instr.handover long false).wellFormed = false
      ∧ (Instr.live long false).wellFormed = false ∧ (Instr.close long false).wellFormed = false
      ∧ (Instr.erase long false).wellFormed = false := by decide +kernel

/-- The page codes 1 and 11 name pages, and so are no bad page. -/
theorem test_wellFormed_refuses_named_page :
    (Instr.queryBadPage (query 0) 1 false).wellFormed = false
      ∧ (Instr.queryBadPage (query 0) 11 false).wellFormed = false
      ∧ (Instr.queryBadPage (query 0) 0 false).wellFormed = true
      ∧ (Instr.queryBadPage (query 0) 12 false).wellFormed = true := by decide

/-- The table gives no row any bits. -/
theorem test_no_word_spells_a_command : decodeTableWord 0 0 = none := by decide

/-! ## The spec's worked examples -/

/-- Chapter 6, R120: the CRC of the text 123456789. -/
theorem test_crc_check_value : crc16 [0x31, 0x32, 0x33, 0x34, 0x35, 0x36, 0x37, 0x38, 0x39] = 0x29B1#16 := by
  decide +kernel

/-- Chapter 3, "beacon offsets": serial low half 0x1234 in intervals 100 to 102. -/
theorem test_beacon_offsets :
    beaconOffsetOf 0x00A11234 100 = 20466 ∧ beaconOffsetOf 0x00A11234 101 = 51367
      ∧ beaconOffsetOf 0x00A11234 102 = 32268 := by decide

/-- Chapter 6, "a crowded channel at a beacon offset": the generator and the backoffs of 24, 48, 56 and 32 ms. -/
theorem test_backoff_generator :
    lfsrStep 0x1234 = 0x091A#16 ∧ lfsrStep 0x091A = 0x048D#16 ∧ lfsrStep 0x048D = 0xB646#16
      ∧ lfsrStep 0xB646 = 0x5B23#16 ∧ backoffMs 0x091A = 24 ∧ backoffMs 0x048D = 48 ∧ backoffMs 0xB646 = 56
      ∧ backoffMs 0x5B23 = 32 := by decide

/-- Chapter 1, "profile checking": the stored values after clamping. -/
theorem test_profile_checked :
    sentProfile.length = 39 ∧ (checkProfile sentProfile).map (·.profile) =
      some ⟨3000, -100, 3050, 1000000, 0, 15, 1, true, true, 300, 30, 40, 10, 500, 12, 40⟩ := by decide

/-- Chapter 2, "from codes to 6.93 °C": the last conversion of the burst gives P 693 with trim −15. -/
theorem test_conversion_693 :
    let s := bursting ⟨true, false, false⟩ true false [2050, 2602, 2598, 2611, 2600]
    ((after (.conversionEnd 2054 false) { s with info := ⟨own, -15, 0⟩ }).mc.last.map (fun r => (r.p, r.pRange, r.a)))
      = some (.temp 693, none, none) := by decide

/-- Chapter 2, "edge cases of the chain": the interpolations and the cold end of the table. -/
theorem test_table_edges :
    tableTemp 4900 = (1000, none) ∧ tableTemp 7500 = (-1750, none) ∧ tableTemp 3000 = (3182, none)
      ∧ tableTemp 8926 = (-4000, some .low) ∧ trimmedTemp (-4000) 20 = -3980 := by decide

/-- Chapter 2, "edge cases of the chain": a drifted reference gives REF for both channels and notes both codes. -/
theorem test_reference_drift :
    let s := bursting ⟨true, false, false⟩ true true [2050, 2602, 2598, 2611, 2600, 2602, 2598, 2611, 2600]
    let t := after (.conversionEnd 2080 false) s
    t.mc.last.map (fun r => (r.p, r.a)) = some (.ref, some .ref)
      ∧ t.sf.context.map (fun c => (c.code, c.datum)) = some (.refFault, beBytes 2 2050 ++ beBytes 2 2080 ++ [0, 0, 0, 0])
      ∧ t.sf.unread = 1 := by decide

/-- Chapter 4, "a bridged gap": the close of 63 with a run of 2 takes W from 400 to 580 and opens an excursion. -/
theorem test_bridged_gap :
    let s := chilled 63
    let t := after .intervalBoundary
      { s with ie := { s.ie with cur := some (measured 63 560 510), gapRun := 2 } }
    t.ie.exposure = ⟨580, 0⟩ ∧ t.ie.gapRun = 0 ∧ t.ie.counts.bridged = 2 ∧ t.ie.counts.own = 1
      ∧ t.cu.custody = .excursion := by decide

/-- Chapter 4, "a bridged gap", its second table: a third minute without figures breaks custody with GAP at 63. -/
theorem test_gap_breaks_custody :
    let s := chilled 63
    let t := after .intervalBoundary { s with ie := { s.ie with gapRun := 2 } }
    t.cu.custody = .broken ∧ t.cu.breakInterval = some 63 ∧ t.cu.causes = ⟨false, false, false, true, false, false⟩
      ∧ t.ie.mark = true ∧ t.ie.gapRun = 3 ∧ t.ie.exposure = ⟨400, 0⟩ := by decide

/-- Chapter 1, "a summer round": an own minute of 495 and 470 starts custody in PRECOOL. -/
theorem test_custody_starts :
    let s := inCustodyState .precool
    let t := after .intervalBoundary
      { s with
        cu := { s.cu with custodyStart := none }
        ie := { s.ie with cur := some (measured 61 495 470), exposure := ⟨0, 0⟩, precoolCount := 3 } }
    t.cu.custody = .chilled ∧ t.cu.custodyStart = some 61 ∧ t.ie.precoolCount = 3 := by decide

/-- Chapter 4, "a probe against the wall": the medians of 80, 83 and 85. -/
theorem test_consensus_median :
    medianOf [700, 610, 655, 640] = 640 ∧ medianOf [620, 645, 650, 690] = 645 ∧ medianOf [660, 615, 640] = 640 := by
  decide

/-- Chapter 3, "mode changes and the compare": P 520 at 200 / 30,000 against 445 half a minute before is a rise of 150
a minute; fast-until becomes 210 and the buffer 10,000. -/
theorem test_rise_extends_fast :
    let s := chilled 200
    let r : BurstResult := ⟨⟨200, 30000⟩, ⟨true, false, false⟩, true, .temp 520, none, none, none⟩
    let t := riseDetect false r { s with tb := { s.tb with riseRef := some ⟨⟨200, 0⟩, 445⟩ } }
    t.tb.fastUntil = 210 ∧ t.tb.mode = .fast ∧ t.tb.buffer = 10000 ∧ t.tb.period = 30000
      ∧ t.tb.alertInterval = some 200 := by decide

/-- Chapter 8, "a cross-dock with a lost reply": the handover to leg 3 at 1312. -/
theorem test_cross_dock :
    let t := after (.handover (frame [0, 21, 0, 40, 3]) false) (chilled 1312)
    t.es.openLeg = some ⟨3, 21, 40, 1312, none, none, ⟨0, 0⟩, 0, 0, 0, 0, reader⟩ ∧ t.es.legCount = 3
      ∧ t.es.queue = [.leg { leg2 with finish := some 1312 }] := by decide

/-- Chapter 8, "a cross-dock with a lost reply": a leg number used already with other codes is stopped. -/
theorem test_cross_dock_mismatch :
    let t := after (.handover (frame [0, 9, 0, 55, 2]) false) (chilled 1340)
    t.es.openLeg = some leg2 ∧ t.es.legCount = 2
      ∧ (t.lc.onAir.map (fun a => a.frame.getD 10 0)) = some 4#8 := by decide

/-- Chapter 5, "a full table": the table of interval 410, its slots 3, 8, 11 and 17 as listed, the others of age 0. -/
def fullTable : List (Option Peer) :=
  ((((List.range 24).map (fun k => some (peer (BitVec.ofNat 32 (0x00C00000 + k)) 410 0 90))).set 3
      (some (peer 0x00A10090 405 4 60))).set 8 (some (peer 0x00A100C4 406 3 75))).set 11
      (some (peer 0x00A100F2 405 4 60)) |>.set 17 (some (peer 0x00A10015 405 4 82))

/-- Chapter 5, "a full table": the four newcomers take the slots 11, 3, 17 and 8 in turn. -/
theorem test_full_table :
    let t0 := { chilled 410 with nt := fullTable }
    let t1 := after (.beacon (beacon 0x00D40001 0) 70) t0
    let t2 := after (.beacon (beacon 0x00D40002 0) 70) t1
    (t1.nt.getD 11 none).map (·.serial) = some 0x00D40001#32 ∧ (t2.nt.getD 3 none).map (·.serial) = some 0x00D40002#32
      ∧ t2.nt.getD 17 none = fullTable.getD 17 none := by decide

/-- Chapter 6, "a crowded channel at a beacon offset": the fourth busy sense drops the beacon and serves the reply. -/
theorem test_crowded_channel :
    let s := sendingOn .backoff .beacon
    let waiting : PlacedReply := ⟨⟨⟨reader, 1⟩, .ok, 11, []⟩, [0x2C], ⟨61, 20475⟩⟩
    let t := after (.backoffEnd true false) { s with
      lc := { s.lc with
        attempts := 3, generator := 0xB646, beaconSlot := some ⟨.scheduled, ⟨61, 20466⟩⟩, replySlot := some waiting } }
    t.lc.tx = .sending ∧ t.lc.served = some .reply ∧ t.lc.attempts = 0 ∧ t.lc.generator = 0xB646#16
      ∧ t.lc.counters.beaconsDropped = 1 ∧ t.lc.beaconSlot = none ∧ t.lc.replySlot = none := by decide

/-- Chapter 3, "mode changes and the compare": the fall to LOW at 203 / 25,000 in FAST with the next match at 30,000. -/
theorem test_supply_low_in_fast :
    let s := chilled 203
    let t := after .supplyLow
      { s with tb := { s.tb with mode := .fast, fastUntil := 210, period := 10000, buffer := 10000 } }
    t.tb.mode = .lean ∧ t.tb.compare = some 30000 ∧ t.tb.period = 10000 ∧ t.tb.buffer = 60000 ∧ t.tb.fastUntil = 0
      ∧ t.sf.supply = .low := by decide

/-- Chapter 7, "the log fills": with 96 stored an episode that reaches the head is folded and LOG_FULL is noted. -/
theorem test_log_fills :
    let s := chilled 214
    let gap : Episode := { episode .gap 212 (some 213) (some ⟨30, 0⟩) with count := 2 }
    let t := offer (.episode gap) { s with es := { s.es with storedCount := 96, overflow := ⟨1, 150, 0, 0⟩ } }
    t.es.overflow = ⟨2, 180, 0, 2⟩ ∧ t.es.logFullNoted = true ∧ t.es.queue = []
      ∧ t.sf.context.map (fun c => (c.code, c.datum.take 2)) = some (.logFull, [2, 2]) := by decide

/-- Chapter 11, "a loose probe and a busy dock": P_NOISY, P_OPEN and CRC_ERROR make the sticky set 0x000406. -/
theorem test_sticky_bits :
    let t := noteNow .crcError [48] (noteNow .pOpen (beBytes 2 4071) (noteNow .pNoisy (beBytes 2 91) (chilled 640)))
    t.sf.sticky = 0x000406#22 ∧ t.sf.unread = 3 ∧ t.sf.multiple = true
      ∧ t.sf.context.map (fun c => (c.code, c.datum.take 2)) = some (.pNoisy, [0, 91]) := by decide

/-- R151, R153, R104: STATUS has no index 3 and is answered BAD_INDEX; PEERS has slot 23 and is answered OK. -/
theorem test_query_index_bounds :
    (after (.queryStatus (query 3) false) (chilled 61)).lc.onAir.map (fun a => a.frame.getD 10 0) = some 8#8
      ∧ (after (.queryPeers (query 23) false) (chilled 61)).lc.onAir.map (fun a => a.frame.getD 10 0) = some 0#8 := by
  decide

/-- The checkpoint of interval 494 in chapter 10's worked example of a restore. -/
def base494 : CheckpointContent where
  interval := 494
  sequence := 32
  custody := .chilled
  causes := ⟨false, false, false, false, false, false⟩
  breakInterval := none
  custodyStart := some 4
  counts := ⟨481, 3, 4, 2, 0, 0, 0⟩
  gapRun := 1
  mark := false
  before := some ⟨480, 455⟩
  consensusRun := 0
  precoolCount := 4
  legCount := 1
  openLeg := some { leg2 with number := 1, start := 0 }
  overflow := ⟨0, 0, 0, 0⟩
  sticky := 0
  fastUntil := 0

/-- The store of that worked example. -/
def cellChange : Areas :=
  ⟨some record,
    (List.range 96).map (fun k =>
      if k = 0 then some (episode .excursion 20 (some 40) (some ⟨1200, 0⟩))
      else if k < 14 then some (episode .gap (20 + k) (some (40 + k)) (some ⟨0, 0⟩))
      else if k = 14 then some (episode .gap 494 (some 494) (some ⟨30, 0⟩))
      else if k = 15 then some (episode .excursion 500 (some 503) (some ⟨250, 0⟩))
      else none),
    List.replicate 16 none, some (sealCheckpoint base494) :: List.replicate 7 none, none, false⟩

/-- Its one checkpoint is valid, and so the one that the restore uses. -/
theorem test_cellChange_used : cellChange.used = some base494 := by
  simp [Areas.used, Areas.valid, cellChange, validFrom, newest, Checkpoint.valid, sealCheckpoint, List.replicate]

/-- Chapter 10, "a restore after a cell change": resume 504, W 1,480, 9 minutes lost, 1 unbridged, POWER 495 to 504. -/
theorem test_restore_example :
    cellChange.resume = 504 ∧ countStored cellChange.episodes = 16
      ∧ restoredExposure (inSlots cellChange.episodes) base494.overflow = ⟨1480, 0⟩
      ∧ restoredCounts cellChange.used base494 cellChange.resume = ⟨481, 3, 4, 2, 1, 0, 9⟩
      ∧ (powerEpisode 1 cellChange.used cellChange.resume).start = 495
      ∧ (powerEpisode 1 cellChange.used cellChange.resume).finish = some 504
      ∧ (powerEpisode 1 cellChange.used cellChange.resume).count = 10 := by
  simp only [Areas.resume, test_cellChange_used]; decide

/-! ## A sound part in service: what the statements that every step keeps something need -/

theorem oneNeighbour_sound (n : Nat) : TableSound own (oneNeighbour n) := by
  have only : ∀ (k : Nat) (p : Peer), (oneNeighbour n)[k]? = some (some p) → k = 0 ∧ p = peer 0x00A10033 n 0 120 := by
    intro k p hk
    match k with
    | 0 => exact ⟨rfl, by simpa [oneNeighbour, eq_comm] using hk⟩
    | k + 1 =>
      rw [oneNeighbour, List.getElem?_cons_succ, List.getElem?_replicate] at hk
      split at hk <;> simp at hk
  have member : ∀ p : Peer, some p ∈ oneNeighbour n → p = peer 0x00A10033 n 0 120 := by
    intro p hp
    obtain ⟨k, hk⟩ := List.getElem?_of_mem hp
    exact (only k p hk).2
  refine ⟨by simp [oneNeighbour], ?_, ?_, ?_, ?_⟩
  · intro i j p q hi hj _
    rw [(only i p hi).1, (only j q hj).1]
  · intro p hp; rw [member p hp]; simp [peer, own]
  · intro p hp; rw [member p hp]; simp [peer]
  · intro p hp; rw [member p hp]; simp [peer]

/-- The part CHILLED in interval 61 with that interval's boundary waiting in its queue. -/
def waiting : State := { chilled 61 with pending := [.intervalBoundary] }

theorem waiting_faults : waiting.sf.FaultsSound := ⟨by decide, by decide, by decide⟩

theorem waiting_schedule : waiting.ScheduleSound where
  mode := by decide
  buffer := by decide
  period := by decide
  interval := by decide
  phase := by decide
  quarter := by decide
  compare c h := by cases h; decide
  offset := by decide

theorem waiting_radio : waiting.RadioSound where
  line := by decide
  halted := by decide
  off := by decide
  idle := by decide
  noSense := by decide
  served := by decide
  waiting slot h := by cases h
  onAir := by decide
  attempts := by decide
  generator := by decide

theorem waiting_converter : waiting.ConverterSound where
  idle := by decide
  quiet := by decide
  inFlight := by decide
  waiting := by decide
  deferred acc h := by cases h

theorem waiting_custody : waiting.CustodySound where
  noCause := by decide
  broken := by decide
  started := by decide
  notStarted := by decide
  leg := by decide
  accumulators := by decide
  waiting := by decide
  blank := by decide
  profile r h := by cases h
  commissioning h := by cases h
  certificate c h := by cases h
  closing h := by cases h

theorem waiting_store : waiting.StoreSound where
  queue := by decide
  stored := by decide
  ring := by decide
  history := by decide
  episodes := by decide
  legs := by decide
  checkpoints := by decide
  writing := by decide
  room e rest h := by cases h
  taken rest h := by cases h
  idle := by decide
  halted := by decide

theorem waiting_exposure : waiting.ExposureSound where
  bounded := by decide
  zero := by decide
  gapRun := by decide
  current acc h := by cases h; exact ⟨rfl, fun r hr => by cases hr⟩
  deferred acc h := by cases h
  history := List.Pairwise.nil

theorem waiting_episodes : waiting.EpisodesFilled := fun k h => by cases h

theorem waiting_captures : waiting.CapturesSound where
  fastUntil := by decide
  alert n h := by cases h
  riseRef x h := by cases h
  riseBuffer x h := by cases h
  flight f h := by cases h
  stored c h := by simp [waiting, chilled, State.reset, Areas.empty] at h
  queued c h := by cases h

/-- An empty queue without power, with a compare match due, at quarters 2 and 3, at phases 59,998 and 59,999, and just
before the beacon offset. -/
theorem test_witness_StepRunsFrontCommand :
    let at_ (phase quarter : Nat) : State :=
      { chilled 61 with tb := { (chilled 61).tb with phase := phase, quarter := quarter, compare := none } }
    let off : State := { chilled 61 with powered := false }
    let offset := (chilled 61).tb.beaconOffset
    off.pending = [] ∧ off.powered = false ∧ State.reset.pending = [] ∧ State.reset.powered = true
      ∧ State.reset.tb.compare = some 0 ∧ 0 ≤ State.reset.tb.phase ∧ dueEvent State.reset = some .compareMatch
      ∧ (at_ 14200 2).pending = [] ∧ (at_ 14200 2).powered = true ∧ dueEvent (at_ 14200 2) = none
      ∧ (at_ 14200 2).tb.quarter < 3 ∧ dueEvent (at_ 59999 3) = none ∧ 3 ≤ (at_ 59999 3).tb.quarter
      ∧ 59999 ≤ (at_ 59999 3).tb.phase ∧ dueEvent (at_ 59998 3) = none ∧ (at_ 59998 3).tb.phase + 1 ≠ offset
      ∧ dueEvent (at_ (offset - 1) 3) = none ∧ (at_ (offset - 1) 3).tb.phase < 59999
      ∧ (at_ (offset - 1) 3).tb.phase + 1 = offset := by decide

theorem test_witness_StepKeepsFaultStatus : ∃ t, waiting.sf.FaultsSound ∧ step waiting = .next t :=
  ⟨_, waiting_faults, rfl⟩

theorem test_witness_StepKeepsNeighbourTable :
    ∃ t, TableSound waiting.info.serial waiting.nt ∧ step waiting = .next t :=
  ⟨_, oneNeighbour_sound 61, rfl⟩

theorem test_witness_StepKeepsSchedule : ∃ t, waiting.ScheduleSound ∧ waiting.CapturesSound ∧ step waiting = .next t :=
  ⟨_, waiting_schedule, waiting_captures, rfl⟩

theorem test_witness_StepKeepsRadio : ∃ t, waiting.RadioSound ∧ step waiting = .next t := ⟨_, waiting_radio, rfl⟩

theorem test_witness_StepKeepsConverter :
    ∃ t, waiting.RadioSound ∧ waiting.ConverterSound ∧ step waiting = .next t :=
  ⟨_, waiting_radio, waiting_converter, rfl⟩

theorem test_witness_StepKeepsCustody :
    ∃ t, waiting.RadioSound ∧ waiting.StoreSound ∧ waiting.CustodySound ∧ step waiting = .next t :=
  ⟨_, waiting_radio, waiting_store, waiting_custody, rfl⟩

theorem test_witness_StepKeepsStore :
    ∃ t, waiting.RadioSound ∧ waiting.StoreSound ∧ waiting.EpisodesFilled ∧ step waiting = .next t :=
  ⟨_, waiting_radio, waiting_store, waiting_episodes, rfl⟩

theorem test_witness_StepKeepsExposure :
    ∃ t, waiting.ScheduleSound ∧ waiting.CustodySound ∧ waiting.ExposureSound ∧ step waiting = .next t :=
  ⟨_, waiting_schedule, waiting_custody, waiting_exposure, rfl⟩

theorem test_witness_StickySetOnlyGrows : ∃ t, exec .intervalBoundary waiting = .next t := ⟨_, rfl⟩

theorem test_witness_StoredRecordsEndOnlyByErase :
    ∃ t, exec (.storeWriteEnd true false false) (writingQueue [.leg leg2]) = .next t := ⟨_, rfl⟩

theorem test_witness_CustodyMoves :
    ∃ t, waiting.CustodySound ∧ Instr.intervalBoundary ≠ .retentionLoss
      ∧ (∀ mv, Instr.intervalBoundary ≠ .powerOn mv) ∧ exec .intervalBoundary waiting = .next t :=
  ⟨_, waiting_custody, by decide, by simp, rfl⟩

theorem closed_custody : closed.CustodySound where
  noCause := by decide
  broken := by decide
  started := by decide
  notStarted := by decide
  leg := by decide
  accumulators := by decide
  waiting := by decide
  blank := by decide
  profile r h := by cases h
  commissioning h := by cases h
  certificate c h := by cases h
  closing h := by cases h

theorem test_witness_CertificateComputedAndFrozen :
    ∃ t, closed.CustodySound ∧ Instr.queryCertA (query 0) false ≠ .retentionLoss
      ∧ (∀ mv, Instr.queryCertA (query 0) false ≠ .powerOn mv)
      ∧ exec (.queryCertA (query 0) false) closed = .next t ∧ closed.cu.custody = .closed
      ∧ closed.cu.certificate.isSome = true ∧ closed.nv.certificate.isSome = true ∧ t.cu.custody = .closed :=
  ⟨_, closed_custody, by decide, by simp, rfl, rfl, rfl, rfl, rfl⟩

/-- Leg 2 open; leg 1 stored, in the queue, still to be handed over, and nowhere; leg 17 beyond the slots; extremes; and
a certificate held in retention alone. -/
theorem test_witness_CertificateComputedAndFrozen_legs :
    let leg1 : Leg := { leg2 with number := 1, finish := some 1180, figures := some ⟨490, 410⟩ }
    let stored : State := { chilled 61 with
      nv := { (chilled 61).nv with legs := some leg1 :: List.replicate 15 none } }
    let queued := writingQueue [.leg leg1]
    let held : State := { chilled 61 with cu := { (chilled 61).cu with closing := [.leg leg1] } }
    let failed : State := { closed with nv := { closed.nv with certificate := none } }
    (chilled 61).es.openLeg = some leg2 ∧ leg2.number = 2 ∧ leg2.number ≠ 1
      ∧ (legPlace 1 stored).leg? = some leg1 ∧ 1 ≤ stored.es.legCount ∧ stored.nv.legs[0]? = some (some leg1)
      ∧ QueueRecord.leg leg1 ∈ queued.es.queue ∧ ClosingItem.leg leg1 ∈ held.cu.closing
      ∧ (chilled 61).nv.legs[0]? ≠ some (some leg1) ∧ (chilled 61).nv.legs[16]? = none
      ∧ (computeCertificate false stored).figures = some ⟨490, 410⟩ ∧ (chilled 61).cu.custody ≠ .closed
      ∧ closed.nv.certificate = some cert ∧ failed.nv.certificate = none ∧ failed.cu.certificate = some cert := by
  decide

/-! ## Frames and replies -/

theorem takes_of_own {s : State} {kind : CommandKind} {f : CommandFrame} (hp : s.powered = true) (hh : s.hears = true)
    (ht : f.target = s.info.serial) (hb : busyState kind s.cu.custody = false) (hl : f.length.toNat = f.payload.length)
    (hs : f.payload.length ≤ 48) (hf : lengthFits kind f.payload = true) : s.Takes kind f :=
  ⟨⟨hp, hh⟩, ht, hb, hl, hs, hf⟩

theorem test_witness_FramesRunTheirCommands :
    readerCommand (.handover (frame [0, 21, 0, 40, 3]) true) = some (.handover, frame [0, 21, 0, 40, 3], true) := rfl

/-- The kinds at the edges of each clause: 0x1A, 0x1C, 0x40 and 0x47 are no kind that is taken, a REPLY is none, a
beacon of 19 or 21 bytes is none, and a command frame of 12 bytes is none. -/
theorem test_witness_FrameOrCommandTurnedAway_frames :
    (inCustodyState .chilled).Receives ∧ (inCustodyState .blank).Receives ∧ (inCustodyState .commissioning).Receives
      ∧ closed.Receives
      ∧ crcAgrees [0x41, 0, 0] = false
      ∧ (∀ k ∈ [0x1A#8, 0x1C#8, 0x2C#8, 0x40#8, 0x47#8],
          crcAgrees (withCrc [k]) = true ∧ (withCrc [k]).headD 0 ≠ 0x1B#8
            ∧ ((withCrc [k]).headD 0 < 0x41#8 ∨ 0x46#8 < (withCrc [k]).headD 0))
      ∧ (∀ n ∈ [16, 18], crcAgrees (withCrc (0x1B#8 :: List.replicate n 0)) = true
          ∧ (withCrc (0x1B#8 :: List.replicate n 0)).length ≠ 20)
      ∧ crcAgrees (beaconBytes (beacon 0x00A10033 0)) = true ∧ (beaconBytes (beacon 0x00A10033 0)).headD 0 = 0x1B#8
      ∧ (∀ k ∈ [0x41#8, 0x46#8], crcAgrees (withCrc (k :: List.replicate 9 0)) = true
          ∧ (withCrc (k :: List.replicate 9 0)).length = 12) :=
  ⟨⟨rfl, rfl⟩, ⟨rfl, rfl⟩, ⟨rfl, rfl⟩, ⟨rfl, rfl⟩, by decide, by decide, by decide +kernel, by decide +kernel,
    by decide +kernel, by decide +kernel⟩

/-- Nothing is delivered with the line off and in WAIT; and a frame on the air in SENDING. -/
theorem test_witness_FrameOrCommandTurnedAway_unheard :
    let sending : State := { sendingOn .sending .beacon with
      lc := { (sendingOn .sending .beacon).lc with onAir := some ⟨.beacon, [0x1B]⟩ } }
    (atSupply .critical .halted false).hears = false ∧ State.reset.lc.tx = .wait ∧ State.reset.hears = false
      ∧ (chilled 61).lc.enable = true ∧ (chilled 61).lc.tx ≠ .wait ∧ (chilled 61).lc.tx ≠ .sending
      ∧ sending.lc.enable = true ∧ sending.lc.tx = .sending ∧ sending.lc.onAir = some ⟨.beacon, [0x1B]⟩ := by decide

/-- Another target; the three states that answer BUSY; and a length field or a payload that does not fit. -/
theorem test_witness_FrameOrCommandTurnedAway_commands :
    readerCommand (.live { frame [] with target := 1 } false) = some (.live, { frame [] with target := 1 }, false)
      ∧ (chilled 61).Receives ∧ ({ frame [] with target := 1 } : CommandFrame).target ≠ (chilled 61).info.serial
      ∧ (frame []).target = (chilled 61).info.serial
      ∧ (inCustodyState .erasing).Receives ∧ (inCustodyState .closing).Receives
      ∧ (inCustodyState .closing).cu.custody = .closing ∧ CommandKind.live ≠ .query
      ∧ busyState .query (inCustodyState .closing).cu.custody = false
      ∧ busyState .live (chilled 61).cu.custody = false
      ∧ ({ frame [] with length := 1 } : CommandFrame).length.toNat ≠ ({ frame [] with length := 1 } : CommandFrame).payload.length
      ∧ 48 < (frame (List.replicate 49 0)).payload.length
      ∧ lengthFits .live (frame [0]).payload = false ∧ lengthFits .handover (frame [0, 21, 0, 40]).payload = false :=
  ⟨rfl, ⟨rfl, rfl⟩, by decide, rfl, ⟨rfl, rfl⟩, ⟨rfl, rfl⟩, rfl, by decide, rfl, rfl, by decide, by decide, rfl, rfl⟩

/-- The transceiver off, a transmitter at work with its reply slot empty and full, and an idle transmitter. -/
theorem test_witness_ReplyPlaced :
    (atSupply .critical .halted false).lc.enable = false
      ∧ (sendingOn .sending .beacon).lc.enable = true ∧ (sendingOn .sending .beacon).lc.tx ≠ .idle
      ∧ (sendingOn .sending .beacon).lc.replySlot = none
      ∧ (chilled 61).lc.enable = true ∧ (chilled 61).lc.tx = .idle ∧ (chilled 61).lc.replySlot = none
      ∧ (chilled 61).lc.beaconSlot = none := by decide

/-- A part in service with a reply waiting behind a beacon on the air. -/
def replyWaits : State :=
  { sendingOn .sending .beacon with
    lc := { (sendingOn .sending .beacon).lc with
      onAir := some ⟨.beacon, [0x1B]⟩, replySlot := some ⟨⟨⟨reader, 1⟩, .ok, 0, []⟩, [0x2C], ⟨61, 10⟩⟩ } }

theorem test_witness_ReplyPlaced_replacing :
    replyWaits.lc.enable = true ∧ replyWaits.lc.tx ≠ .idle
      ∧ replyWaits.lc.replySlot = some ⟨⟨⟨reader, 1⟩, .ok, 0, []⟩, [0x2C], ⟨61, 10⟩⟩ := by decide

/-! ## Reader commands -/

/-- The part BLANK, its WAIT over. -/
def blank : State := { State.reset with lc := { State.reset.lc with tx := .idle } }

theorem test_witness_CommissionTaken :
    blank.Takes .commission (frame sentProfile) ∧ blank.cu.custody = .blank ∧ blank.es.queue = []
      ∧ blank.es.state = .idle ∧ blank.es.criticalWaiting = false ∧ blank.sf.activity = .running
      ∧ (checkProfile (frame sentProfile).payload).isSome = true
      ∧ blank.Takes .commission (frame (1 :: List.replicate 31 0))
      ∧ checkProfile (frame (1 :: List.replicate 31 0)).payload = none
      ∧ (chilled 61).Takes .commission (frame sentProfile) ∧ (chilled 61).cu.custody ≠ .blank
      ∧ (inCustodyState .commissioning).Receives ∧ (inCustodyState .erasing).Receives :=
  ⟨takes_of_own rfl rfl rfl rfl rfl (by decide) rfl, rfl, rfl, rfl, rfl, rfl, by decide,
    takes_of_own rfl rfl rfl rfl rfl (by decide) rfl, by decide, takes_of_own rfl rfl rfl rfl rfl (by decide) rfl,
    by decide, ⟨rfl, rfl⟩, ⟨rfl, rfl⟩⟩

/-- R21's edges: an ID length of 0 and of 17, a compartment code of 0, and a chill range of 49 are refused; 16 bytes
and a range of 50 are accepted. -/
theorem test_witness_CheckedProfileInRange :
    let fields (upper : Int) (code : Nat) : List Byte :=
      tempBytes upper ++ tempBytes 0 ++ tempBytes 1000 ++ beBytes 4 0 ++ beBytes 4 0 ++ [2, 30, 0] ++ tempBytes 0
        ++ tempBytes 0 ++ [0] ++ tempBytes 100 ++ tempBytes 100 ++ beBytes 2 code ++ beBytes 2 40
    checkProfile (0 :: fields 500 7) = none ∧ checkProfile (17 :: List.replicate 17 1 ++ fields 500 7) = none
      ∧ checkProfile ([1, 1] ++ fields 500 0) = none ∧ checkProfile ([1, 1] ++ fields 49 7) = none
      ∧ (checkProfile ([1, 1] ++ fields 50 7)).isSome = true
      ∧ (checkProfile (16 :: List.replicate 16 1 ++ fields 500 7)).isSome = true := by decide

/-- The part with sixteen legs opened. -/
def sixteenLegs : State := { chilled 61 with es := { (chilled 61).es with openLeg := some { leg2 with number := 16 }, legCount := 16 } }

theorem test_witness_HandoverJudged :
    (chilled 1312).Takes .handover (frame [0, 21, 0, 40, 3]) ∧ (chilled 1312).cu.custody.inService = true
      ∧ (chilled 1312).es.openLeg = some leg2 ∧ fieldAt (frame [0, 21, 0, 40, 3]).payload 0 2 ≠ 0
      ∧ fieldAt (frame [0, 21, 0, 40, 3]).payload 4 1 = leg2.number + 1 ∧ (chilled 1312).es.legCount < 16
      ∧ (chilled 61).Takes .handover (frame [0, 7, 0, 40, 2])
      ∧ fieldAt (frame [0, 7, 0, 40, 2]).payload 4 1 = leg2.number
      ∧ fieldAt (frame [0, 7, 0, 40, 2]).payload 0 2 = leg2.compartment
      ∧ fieldAt (frame [0, 7, 0, 40, 2]).payload 2 2 = leg2.carrier
      ∧ fieldAt (frame [0, 7, 0, 41, 2]).payload 2 2 ≠ leg2.carrier
      ∧ sixteenLegs.Takes .handover (frame [0, 7, 0, 40, 17]) ∧ 16 ≤ sixteenLegs.es.legCount
      ∧ fieldAt (frame [0, 7, 0, 40, 17]).payload 4 1 = 16 + 1
      ∧ fieldAt (frame [0, 7, 0, 40, 1]).payload 4 1 ≠ leg2.number
      ∧ fieldAt (frame [0, 7, 0, 40, 4]).payload 4 1 ≠ leg2.number + 1
      ∧ fieldAt (frame [0, 0, 0, 40, 3]).payload 0 2 = 0
      ∧ closed.Takes .handover (frame [0, 7, 0, 40, 2]) ∧ closed.cu.custody = .closed
      ∧ blank.Takes .handover (frame [0, 7, 0, 40, 2]) ∧ blank.cu.custody = .blank :=
  ⟨takes_of_own rfl rfl rfl rfl rfl (by decide) rfl, rfl, rfl, by decide, rfl, by decide,
    takes_of_own rfl rfl rfl rfl rfl (by decide) rfl, rfl, rfl, rfl, by decide,
    takes_of_own rfl rfl rfl rfl rfl (by decide) rfl, by decide, rfl, by decide, by decide, rfl,
    takes_of_own rfl rfl rfl rfl rfl (by decide) rfl, rfl, takes_of_own rfl rfl rfl rfl rfl (by decide) rfl, rfl⟩

/-- The part with one episode stored and one closed interval in its ring. -/
def withRecords : State :=
  { chilled 61 with
    ie := { (chilled 61).ie with history :=
      [⟨60, .own, some ⟨480, 455⟩, 2, 2, ⟨true, false, false⟩, none, false, ⟨0, 0⟩, none, .steady, false, false⟩] }
    es := { (chilled 61).es with storedCount := 1 }
    nv := { (chilled 61).nv with
      episodes := some (episode .excursion 20 (some 40) (some ⟨120, 0⟩)) :: List.replicate 95 none } }

/-- Every page with the first and the last index that it answers. -/
theorem test_witness_QueryAnswered :
    (∀ page : Byte, withRecords.Takes .query (queryCommand (query 0) page)) ∧ withRecords.cu.custody ≠ .blank
      ∧ (legPage 1 withRecords).isSome = true ∧ (legPage 2 withRecords).isSome = true
      ∧ 0 < withRecords.es.storedCount
      ∧ withRecords.nv.episodes[0]? = some (some (episode .excursion 20 (some 40) (some ⟨120, 0⟩)))
      ∧ (openPage 0 withRecords).isSome = true ∧ (openPage 3 withRecords).isSome = true
      ∧ withRecords.ie.history[0]?.isSome = true
      ∧ withRecords.nt[0]?.isSome = true ∧ withRecords.nt[23]?.isSome = true :=
  ⟨fun _ => takes_of_own rfl rfl rfl rfl rfl (Nat.le_of_ble_eq_true rfl) rfl, by decide, by decide, by decide, by decide, by decide,
    by decide, by decide, by decide, by decide, by decide⟩

/-- The first index or page code past each page's range. -/
theorem test_witness_QueryRefused :
    (∀ (index page : Byte), withRecords.Takes .query (queryCommand (query index) page))
      ∧ (∀ page : Byte, blank.Takes .query (queryCommand (query 0) page)) ∧ blank.cu.custody = .blank
      ∧ (0#8 = 0 ∧ 11 < (12#8).toNat) ∧ withRecords.cu.custody ≠ .blank
      ∧ (query 0).index.toNat = 0 ∧ withRecords.es.legCount < (query 3).index.toNat
      ∧ withRecords.es.storedCount ≤ (query 1).index.toNat ∧ 4 ≤ (query 4).index.toNat
      ∧ withRecords.ie.history.length ≤ (query 1).index.toNat ∧ withRecords.nt.length ≤ (query 24).index.toNat
      ∧ 3 ≤ (query 3).index.toNat :=
  ⟨fun _ _ => takes_of_own rfl rfl rfl rfl rfl (Nat.le_of_ble_eq_true rfl) rfl,
    fun _ => takes_of_own rfl rfl rfl rfl rfl (Nat.le_of_ble_eq_true rfl) rfl, rfl, by decide, by decide, rfl, by decide, by decide,
    by decide, by decide, by decide, by decide⟩

theorem test_witness_QueriesOnlyRead :
    ∃ t, readerCommand (.queryFaults (query 0) false) = some (.query, queryCommand (query 0) 10, false)
      ∧ exec (.queryFaults (query 0) false) (chilled 61) = .next t := ⟨_, rfl, rfl⟩

theorem test_witness_PageLengths :
    (∀ c, (chilled 61).sf.context = some c → c.datum.length = 8)
      ∧ (∀ r, (chilled 61).cu.commissioned = some r → r.consignment.length ≤ 16)
      ∧ (legPage 1 (chilled 61)).isSome = true ∧ (legPage 2 (chilled 61)).isSome = true
      ∧ (openPage 0 (chilled 61)).isSome = true ∧ (openPage 3 (chilled 61)).isSome = true
      ∧ (historyPage 0 (after .intervalBoundary (chilled 61))).isSome = true
      ∧ (peersPage 23 (chilled 61)).isSome = true ∧ (statusPage 2 (chilled 61)).isSome = true := by
  refine ⟨fun c h => (by cases h), fun r h => (by cases h; decide), ?_⟩
  decide

/-- The part with a context noted, for the FAULTS page. -/
theorem test_witness_PageLengths_context :
    ∀ c, (noteNow .crcError [48] (chilled 61)).sf.context = some c → c.datum.length = 8 := by
  intro c h; cases h; decide

theorem test_witness_LiveTaken :
    closed.Takes .live (frame []) ∧ closed.cu.custody = .closed
      ∧ (chilled 61).Takes .live (frame []) ∧ (chilled 61).cu.custody ≠ .closed ∧ (chilled 61).sf.activity = .running
      ∧ (chilled 61).sf.haltPending = false ∧ (chilled 61).mc.burst = .idle
      ∧ (chilled 61).mc.triggers = ⟨false, false, false⟩ ∧ (chilled 61).lc.liveWaiting = none
      ∧ (bursting ⟨true, false, false⟩ true false []).Takes .live (frame [])
      ∧ (bursting ⟨true, false, false⟩ true false []).mc.burst ≠ .idle
      ∧ (bursting ⟨true, false, false⟩ true false []).lc.liveWaiting = none :=
  ⟨takes_of_own rfl rfl rfl rfl rfl (by decide) rfl, rfl, takes_of_own rfl rfl rfl rfl rfl (by decide) rfl, by decide,
    rfl, rfl, rfl, rfl, rfl, takes_of_own rfl rfl rfl rfl rfl (by decide) rfl, by decide, rfl⟩

/-- A burst with one LIVE in flight, or one waiting, or both: for the replaced LIVE and the ABORTED answers. -/
def livesUnderWay (flying waits : Option Asker) : State :=
  let s := bursting ⟨true, false, flying.isSome⟩ true false []
  { s with
    mc := { s.mc with triggers := ⟨false, false, waits.isSome⟩ }
    lc := { s.lc with liveInFlight := flying, liveWaiting := waits } }

theorem test_witness_LiveTaken_aborts :
    let who : Asker := ⟨reader, 1⟩
    (livesUnderWay none (some who)).Takes .live (frame []) ∧ (livesUnderWay none (some who)).lc.liveWaiting = some who
      ∧ (livesUnderWay none none).mc.burst.flight = some ⟨⟨61, 10⟩, ⟨true, false, false⟩, true, false⟩
      ∧ (livesUnderWay none none).mc.triggers.spot = false
      ∧ (livesUnderWay (some who) none).mc.burst.flight = some ⟨⟨61, 10⟩, ⟨true, false, true⟩, true, false⟩
      ∧ (livesUnderWay (some who) none).lc.liveInFlight = some who
      ∧ (livesUnderWay none (some who)).mc.triggers.spot = true
      ∧ (livesUnderWay (some who) (some who)).lc.liveWaiting = some who
      ∧ (livesUnderWay (some who) (some who)).lc.liveInFlight = some who
      ∧ (after (.close (frame []) false) (livesUnderWay (some who) (some who))).lc.counters.repliesDropped = 1 :=
  ⟨takes_of_own rfl rfl rfl rfl rfl (by decide) rfl, rfl, rfl, rfl, rfl, rfl, rfl, rfl, rfl, by decide⟩

theorem test_witness_CloseTaken :
    (chilled 61).Takes .close (frame []) ∧ (chilled 61).cu.custody.inService = true ∧ (chilled 61).mc.burst = .idle
      ∧ (chilled 61).ie.old = none ∧ (chilled 61).ie.cur = some (Accumulator.empty 61)
      ∧ (bursting ⟨true, false, false⟩ true false []).Takes .close (frame [])
      ∧ (bursting ⟨true, false, false⟩ true false []).cu.custody.inService = true
      ∧ closed.Takes .close (frame []) ∧ closed.cu.custody = .closed
      ∧ blank.Takes .close (frame []) ∧ blank.cu.custody = .blank :=
  ⟨takes_of_own rfl rfl rfl rfl rfl (by decide) rfl, rfl, rfl, rfl, rfl,
    takes_of_own rfl rfl rfl rfl rfl (by decide) rfl, rfl,
    takes_of_own rfl rfl rfl rfl rfl (by decide) rfl, rfl, takes_of_own rfl rfl rfl rfl rfl (by decide) rfl, rfl⟩

/-- A CLOSE in SENDING, a beacon on the air and an alert request waiting behind it. -/
theorem test_witness_CloseTaken_sending :
    let sending : State := { sendingOn .sending .beacon with
      lc := { (sendingOn .sending .beacon).lc with
        onAir := some ⟨.beacon, [0x1B]⟩, beaconSlot := some ⟨.alert, ⟨61, 10⟩⟩ } }
    sending.powered = true ∧ sending.lc.enable = true ∧ sending.lc.tx = .sending
      ∧ sending.lc.onAir = some ⟨.beacon, [0x1B]⟩ ∧ (frame []).target = sending.info.serial ∧ (frame []).length = 0
      ∧ (frame []).payload = [] ∧ sending.cu.custody.inService = true := by decide

theorem test_witness_CloseLeavesNothingOpen :
    ∃ t, waiting.ConverterSound ∧ waiting.Takes .close (frame []) ∧ waiting.cu.custody.inService = true
      ∧ exec (.close (frame []) false) waiting = .next t :=
  ⟨_, waiting_converter, takes_of_own rfl rfl rfl rfl rfl (by decide) rfl, rfl, rfl⟩

/-- The part in an erase. -/
def erasing : State :=
  { closed with
    cu := { closed.cu with custody := .erasing }
    es := { closed.es with state := .erasing, held := some ⟨reader, 1⟩ }
    nv := { closed.nv with eraseMarker := true } }

theorem test_witness_EraseRuns :
    closed.Takes .erase (frame []) ∧ closed.cu.custody = .closed
      ∧ erasing.powered = true ∧ erasing.cu.custody = .erasing ∧ erasing.es.held = some ⟨reader, 1⟩
      ∧ erasing.lc.beaconSlot = none ∧ (erasing.lc.tx = .backoff → erasing.lc.served ≠ some .beacon)
      ∧ blank.Takes .erase (frame []) ∧ blank.cu.custody = .blank
      ∧ (chilled 61).Takes .erase (frame []) ∧ (chilled 61).cu.custody.inService = true :=
  ⟨takes_of_own rfl rfl rfl rfl rfl (by decide) rfl, rfl, rfl, rfl, rfl, rfl, by decide,
    takes_of_own rfl rfl rfl rfl rfl (by decide) rfl, rfl, takes_of_own rfl rfl rfl rfl rfl (by decide) rfl, rfl⟩

/-! ## The neighbour table and measurement -/

theorem test_witness_BeaconEntered :
    (chilled 61).Receives ∧ (chilled 61).cu.custody.takesBeacons = true
      ∧ TableSound (chilled 61).info.serial (chilled 61).nt
      ∧ (chilled 61).nt[0]? = some (some (peer 0x00A10033 61 0 120))
      ∧ (peer 0x00A10033 61 0 120).serial = (beacon 0x00A10033 0).sender :=
  ⟨⟨rfl, rfl⟩, rfl, oneNeighbour_sound 61, rfl, rfl⟩

theorem oneNeighbour_serial (n : Nat) (x : Serial) (hx : x ≠ 0x00A10033) :
    ∀ p : Peer, some p ∈ oneNeighbour n → p.serial ≠ x := by
  intro p hp
  rw [show p = peer 0x00A10033 n 0 120 by simpa [oneNeighbour] using hp]
  simpa [peer] using hx.symm

theorem test_witness_BeaconEntered_newcomer :
    (chilled 61).Receives ∧ (chilled 61).cu.custody.takesBeacons = true
      ∧ (beacon 0x00A10034 0).sender ≠ (chilled 61).info.serial
      ∧ (∀ p, some p ∈ (chilled 61).nt → p.serial ≠ (beacon 0x00A10034 0).sender)
      ∧ (chilled 61).nt[1]? = some none ∧ (∀ j < 1, (chilled 61).nt[j]? ≠ some none) :=
  ⟨⟨rfl, rfl⟩, rfl, by decide, oneNeighbour_serial 61 _ (by decide), rfl, by decide⟩

/-- A full table whose entry in slot 5 has the age given and whose others have age 0. -/
def filled (age : Nat) : List (Option Peer) :=
  (List.range 24).map (fun k => some (peer (BitVec.ofNat 32 (0x00C00000 + k)) 61 (if k = 5 then age else 0) 90))

theorem filled_member {age : Nat} {p : Peer} (h : some p ∈ filled age) :
    ∃ k < 24, p = peer (BitVec.ofNat 32 (0x00C00000 + k)) 61 (if k = 5 then age else 0) 90 := by
  simp only [filled, List.mem_map, List.mem_range, Option.some.injEq] at h
  obtain ⟨k, hk, rfl⟩ := h
  exact ⟨k, hk, rfl⟩

theorem filled_serial {k : Nat} (h : k < 24) : (BitVec.ofNat 32 (0x00C00000 + k)).toNat = 0x00C00000 + k := by
  rw [BitVec.toNat_ofNat]; omega

theorem filled_sound (age : Nat) (ha : age ≤ 5) : TableSound own (filled age) := by
  refine ⟨by simp [filled], ?_, ?_, ?_, ?_⟩
  · intro i j p q hi hj hs
    simp only [filled, List.getElem?_map, Option.map_eq_some_iff, Option.some.injEq] at hi hj
    obtain ⟨a, ha', rfl⟩ := hi
    obtain ⟨b, hb', rfl⟩ := hj
    rw [List.getElem?_eq_some_iff] at ha' hb'
    obtain ⟨hi, rfl⟩ := ha'
    obtain ⟨hj, rfl⟩ := hb'
    simp only [List.length_range] at hi hj
    have := congrArg BitVec.toNat hs
    simp only [peer, List.getElem_range, filled_serial hi, filled_serial hj] at this
    omega
  · intro p hp e
    obtain ⟨k, hk, rfl⟩ := filled_member hp
    have := congrArg BitVec.toNat e
    simp only [peer, filled_serial hk, own] at this
    have : (0x00A10040 : Serial).toNat = 0x00A10040 := rfl
    omega
  · intro p hp
    obtain ⟨k, hk, rfl⟩ := filled_member hp
    simp only [peer]; split <;> omega
  · intro p hp
    obtain ⟨k, hk, rfl⟩ := filled_member hp
    simp [peer]

/-- The age 1 is the least that gives way; at age 0 the newcomer is refused. -/
theorem test_witness_BeaconReplacesOldestOrIsRefused :
    ({ chilled 61 with nt := filled 1 } : State).Receives ∧ (chilled 61).cu.custody.takesBeacons = true
      ∧ TableSound (chilled 61).info.serial (filled 1) ∧ TableSound (chilled 61).info.serial (filled 0)
      ∧ (beacon 0x00D40001 0).sender ≠ (chilled 61).info.serial
      ∧ (∀ age, ∀ p, some p ∈ filled age → p.serial ≠ (beacon 0x00D40001 0).sender)
      ∧ (∀ age, none ∉ filled age)
      ∧ (filled 1)[5]? = some (some (peer 0x00C00005 61 1 90)) ∧ 0 < (peer 0x00C00005 61 1 90).age
      ∧ (∀ p, some p ∈ filled 1 → p.age < 1 ∨ (p.age = 1 ∧ (90 < p.quality
          ∨ (p.quality = 90 ∧ p.serial.toNat ≤ (0x00C00005#32).toNat))))
      ∧ (∀ p, some p ∈ filled 0 → p.age = 0) := by
  refine ⟨⟨rfl, rfl⟩, rfl, filled_sound 1 (by decide), filled_sound 0 (by decide), by decide, ?_, ?_, rfl, by decide,
    ?_, ?_⟩
  · intro age p hp e
    obtain ⟨k, hk, rfl⟩ := filled_member hp
    have := congrArg BitVec.toNat e
    simp only [peer, filled_serial hk, beacon] at this
    have : (0x00D40001 : Serial).toNat = 0x00D40001 := rfl
    omega
  · intro age h; simp [filled] at h
  · intro p hp
    obtain ⟨k, hk, rfl⟩ := filled_member hp
    by_cases e : k = 5
    · subst e; exact .inr ⟨rfl, .inr ⟨rfl, by decide⟩⟩
    · exact .inl (by simp [peer, e])
  · intro p hp
    obtain ⟨k, hk, rfl⟩ := filled_member hp
    simp [peer]

theorem test_witness_OwnSerialIsDiscarded :
    (chilled 61).Receives ∧ (chilled 61).cu.custody.takesBeacons = true
      ∧ (beacon own 1).sender = (chilled 61).info.serial := ⟨⟨rfl, rfl⟩, rfl, rfl⟩

theorem test_witness_HeardAlertActs :
    ∃ t, (chilled 61).Receives ∧ (chilled 61).cu.custody.inService = true
      ∧ (beacon 0x00A10033 1).sender ≠ (chilled 61).info.serial ∧ (beacon 0x00A10033 1).flags.getLsbD 0 = true
      ∧ (chilled 61).es.openLeg = some leg2 ∧ (beacon 0x00A10033 1).compartment.toNat = leg2.compartment
      ∧ (chilled 61).sf.activity = .running ∧ (chilled 61).sf.haltPending = false
      ∧ exec (.beacon (beacon 0x00A10033 1) 70) (chilled 61) = .next t ∧ (chilled 61).mc.burst = .idle
      ∧ (chilled 61).mc.triggers = ⟨false, false, false⟩ ∧ (chilled 61).sf.supply = .good
      ∧ (bursting ⟨true, false, false⟩ true false []).mc.burst ≠ .idle
      ∧ (atSupply .low .running false).Receives ∧ (atSupply .low .running false).sf.supply ≠ .good :=
  ⟨_, ⟨rfl, rfl⟩, rfl, by decide, rfl, rfl, rfl, rfl, rfl, rfl, rfl, rfl, rfl, by decide, ⟨rfl, rfl⟩, by decide⟩

/-- The neighbour heard in 61 is a candidate for it, with the quality floor met. -/
theorem test_witness_WitnessIsWarmestCandidate :
    (chilled 61).es.openLeg = some leg2 ∧ some (peer 0x00A10033 61 0 120) ∈ (chilled 61).nt
      ∧ witnessFor 61 (chilled 61) = some (peer 0x00A10033 61 0 120) ∧ witnessFor 62 (chilled 61) = none := by decide

/-- Channel codes at the check's edges: 40 and 41, 4,054 and 4,055, spreads of 64 and 65. -/
theorem test_witness_MeasuredTemperature_channel :
    (∃ c ∈ [40, 2600, 4055, 2600], c ≤ 40) ∧ (∀ c ∈ [40, 2600, 4055, 2600], 40 ≤ c ∧ c ≤ 4055 ∧ c ≤ 4095)
      ∧ (∀ c ∈ [41, 41, 2600, 4055], 40 < c) ∧ (∃ c ∈ [41, 41, 2600, 4055], 4055 ≤ c)
      ∧ (∀ c ∈ [4054, 3989, 4000, 4000], 40 < c ∧ c < 4055) ∧ 64 < 4054 - 3989
      ∧ (∀ c ∈ [41, 105, 60, 60], 40 < c ∧ c < 4055) ∧ 105 - 41 ≤ 64
      ∧ channelCheck [40, 2600, 4055, 2600] = some (.short 40) ∧ channelCheck [41, 41, 2600, 4055] = some (.opened 4055)
      ∧ channelCheck [4054, 3989, 4000, 4000] = some (.noisy 65) ∧ channelCheck [41, 105, 60, 60] = none := by decide

/-- A burst whose reference fails by a difference of 17, and one at 16 with a valid P, an open A and both notes' order;
and the first segment of the table just inside its ends. -/
theorem test_witness_MeasuredTemperature_result :
    let fl (air : Bool) : Flight := ⟨⟨61, 10⟩, ⟨true, false, false⟩, true, air⟩
    let p := [2602, 2598, 2611, 2600]
    let a := [4060, 4060, 4060, 4060]
    let short := [30, 30, 30, 30]
    p.length = 4 ∧ a.length = 4
      ∧ (formResult State.reset.info (fl false) ([2000] ++ p ++ [] ++ [2017])).2 = [⟨.refFault, [7, 208, 7, 225]⟩]
      ∧ (formResult State.reset.info (fl true) ([2000] ++ short ++ a ++ [2016])).2
          = [⟨.pShort, [0, 30]⟩, ⟨.aOpen, [15, 220]⟩]
      ∧ conversionTable[0]? = some (-4000, 8900) ∧ conversionTable[1]? = some (-2500, 8100)
      ∧ tableTemp 8899 = (-3998, none) ∧ tableTemp 8101 = (-2502, none) := by decide

/-- The smallest and the greatest valid sums and the ends and breakpoints of the table. -/
theorem test_witness_MeasuredTemperature :
    [2602, 2598, 2611, 2600].Perm [2598, 2600, 2602, 2611]
      ∧ normalisedRatio 82 2300 = 73 ∧ normalisedRatio 8108 1800 = 9225 ∧ normalisedRatio 8190 1800 = 9318
      ∧ (8900, some RangeFlag.low) = (8900, (tableTemp 8900).2) ∧ (tableTemp 8899).2 = none
      ∧ (tableTemp 701).2 = none ∧ (tableTemp 700).2 = some .high := by decide

/-- Settling; the first conversion, the last but one and the last, with and without channel A and with a trigger
pending; and the reference's edges 1800, 2300 and a difference of 16. -/
theorem test_witness_BurstRuns :
    let fl : Flight := ⟨⟨61, 10⟩, ⟨true, false, false⟩, false, false⟩
    let settling : State := { chilled 61 with mc := ⟨.settling fl, ⟨false, false, false⟩, none⟩ }
    let last := bursting ⟨true, false, false⟩ false false [2284, 2602, 2598, 2611, 2600]
    let more : State := { last with mc := { last.mc with triggers := ⟨false, false, true⟩ } }
    settling.powered = true ∧ settling.mc.burst = .settling fl
      ∧ (bursting ⟨true, false, false⟩ false false []).mc.burst = .converting fl [] ∧ ([] : List Code).length + 1 < 6
      ∧ last.mc.burst = .converting fl [2284, 2602, 2598, 2611, 2600] ∧ [2284#12, 2602, 2598, 2611, 2600].length + 1 = 6
      ∧ fl.credit = false ∧ fl.sources.spot = false ∧ last.mc.triggers = ⟨false, false, false⟩
      ∧ more.mc.triggers.nonempty = true ∧ last.mc.triggers.nonempty = false
      ∧ (after (.conversionEnd 2300 false) last).mc.last.map (·.p) ≠ some .ref
      ∧ (after (.conversionEnd 2301 false) last).mc.last.map (·.p) = some .ref := by decide

/-- A credited burst with a close deferred behind it, and a SPOT burst with its LIVE in flight. -/
theorem test_witness_BurstRuns_credited :
    let codes : List Code := [2284, 2602, 2598, 2611, 2600]
    let s := bursting ⟨true, false, false⟩ true false codes
    let deferred : State := { s with
      ie := { s.ie with old := some (Accumulator.empty 61), cur := some (Accumulator.empty 62) } }
    let b := bursting ⟨false, false, true⟩ true false codes
    let spot : State := { b with lc := { b.lc with liveInFlight := some ⟨reader, 1⟩ } }
    deferred.powered = true ∧ deferred.mc.burst = .converting ⟨⟨61, 10⟩, ⟨true, false, false⟩, true, false⟩ codes
      ∧ deferred.mc.triggers = ⟨false, false, false⟩ ∧ (Accumulator.empty 61).interval = 61
      ∧ (after (.conversionEnd 2300 false) deferred).ie.old = none
      ∧ (after (.conversionEnd 2300 false) deferred).ie.lastClosed = some 61
      ∧ spot.lc.liveInFlight = some ⟨reader, 1⟩ ∧ spot.mc.triggers = ⟨false, false, false⟩
      ∧ (after (.conversionEnd 2300 false) spot).lc.onAir.map (·.slot) = some .reply := by decide

/-- No temperature; no reference; 4,999 and 5,000 ms; and rates of 99 and 100 a minute at a threshold of 100. -/
theorem test_witness_RiseDetected :
    let s : State := { chilled 61 with tb := { (chilled 61).tb with riseRef := some ⟨⟨61, 0⟩, 400⟩ } }
    let result (phase : Nat) (p : Machine.Outcome) : BurstResult :=
      ⟨⟨61, phase⟩, ⟨true, false, false⟩, true, p, none, none, none⟩
    (result 0 .opened).p.temp? = none ∧ (chilled 61).tb.riseRef = none ∧ (result 0 (.temp 400)).p = .temp 400
      ∧ s.tb.riseRef = some ⟨⟨61, 0⟩, 400⟩ ∧ s.profile.riseThreshold = 100
      ∧ (60000 * ((61 : Int) - 61) + 4999 - 0 < 5000) ∧ 5000 ≤ 60000 * ((61 : Int) - 61) + 5000 - 0
      ∧ Int.tdiv ((499 - 400) * 60000) 60000 < s.profile.riseThreshold
      ∧ s.profile.riseThreshold ≤ Int.tdiv ((500 - 400) * 60000) 60000 := by decide

/-- The alert request of a rise: the interval's second alert, the transceiver off, a transmitter at work with an empty
and a full beacon slot, and an idle one. -/
theorem test_witness_RiseDetected_request :
    let again : State := { chilled 61 with tb := { (chilled 61).tb with alertInterval := some 61 } }
    let full : State := { sendingOn .sending .reply with
      lc := { (sendingOn .sending .reply).lc with beaconSlot := some ⟨.scheduled, ⟨61, 10⟩⟩ } }
    again.tb.alertInterval = some 61 ∧ (chilled 61).tb.alertInterval ≠ some 61
      ∧ (atSupply .critical .running true).lc.enable = false ∧ (sendingOn .sending .reply).lc.enable = true
      ∧ (sendingOn .sending .reply).lc.tx ≠ .idle ∧ (sendingOn .sending .reply).lc.beaconSlot = none
      ∧ full.lc.beaconSlot = some ⟨.scheduled, ⟨61, 10⟩⟩ ∧ (chilled 61).lc.tx = .idle
      ∧ (chilled 61).lc.beaconSlot = none ∧ (chilled 61).lc.replySlot = none := by decide

/-! ## Time -/

/-- The part with a credited burst of interval 61 in flight, as the boundary defers the close behind it. -/
theorem test_witness_BoundaryPassedToClose :
    (chilled 61).powered = true ∧ (chilled 61).cu.custody.inService = true ∧ (chilled 61).tb.interval < 16777215
      ∧ (chilled 61).ie.old = none ∧ (chilled 61).ie.cur = some (Accumulator.empty 61)
      ∧ (chilled 61).creditedInFlight 61 = false
      ∧ (bursting ⟨true, false, false⟩ true false []).creditedInFlight 61 = true
      ∧ (chilled 16777214).tb.interval < 16777215 := by decide

/-- BLANK, CLOSED, and the last interval number in service. -/
theorem test_witness_BoundaryWithoutClose :
    blank.powered = true ∧ blank.cu.custody.inService = false ∧ blank.tb.interval ≤ 16777215
      ∧ closed.cu.custody.inService = false ∧ closed.tb.interval ≤ 16777215
      ∧ (chilled 16777215).powered = true ∧ (chilled 16777215).tb.interval = 16777215 := by decide

/-- The phase just at the compare value, in each of the clauses' cases. -/
theorem test_witness_CompareMatchAdvances :
    let at_ (s : State) : State := { s with tb := { s.tb with phase := 30000 } }
    (∀ s ∈ [at_ (chilled 61), at_ closed, at_ (atSupply .critical .halted false),
        at_ (bursting ⟨true, false, false⟩ true false [])],
      s.powered = true ∧ s.tb.compare = some 30000 ∧ 30000 ≤ s.tb.phase)
      ∧ closed.cu.custody.inService = false ∧ (atSupply .critical .halted false).sf.activity = .halted
      ∧ (atSupply .critical .running true).sf.haltPending = true
      ∧ (chilled 61).cu.custody.inService = true ∧ (chilled 61).sf.activity = .running
      ∧ (chilled 61).sf.haltPending = false ∧ (chilled 61).mc.burst = .idle
      ∧ (chilled 61).mc.triggers = ⟨false, false, false⟩
      ∧ (bursting ⟨true, false, false⟩ true false []).mc.burst ≠ .idle := by decide

/-- A beacon due: LOW in an odd interval, GOOD, and LOW in an even one; with the slot empty, full, and the channel
idle. -/
theorem test_witness_BeaconDueRequests :
    let low : State := atSupply .low .running false
    let even : State := { low with tb := { low.tb with interval := 62 } }
    let full : State := { sendingOn .sending .reply with
      lc := { (sendingOn .sending .reply).lc with beaconSlot := some ⟨.alert, ⟨61, 10⟩⟩ } }
    ¬ (low.sf.supply = .good ∨ (low.sf.supply = .low ∧ low.tb.interval % 2 = 0))
      ∧ (even.sf.supply = .low ∧ even.tb.interval % 2 = 0) ∧ even.cu.custody.inService = true
      ∧ (chilled 61).cu.custody.inService = true ∧ (chilled 61).sf.activity = .running
      ∧ (chilled 61).sf.supply = .good ∧ (chilled 61).lc.enable = true ∧ (chilled 61).lc.tx = .idle
      ∧ (chilled 61).lc.beaconSlot = none ∧ (chilled 61).lc.replySlot = none ∧ (chilled 61).powered = true
      ∧ (sendingOn .sending .reply).lc.tx ≠ .idle ∧ (sendingOn .sending .reply).lc.beaconSlot = none
      ∧ full.lc.enable = true ∧ full.lc.tx ≠ .idle ∧ full.lc.beaconSlot = some ⟨.alert, ⟨61, 10⟩⟩ := by decide

/-! ## The transmitter -/

/-- A reply in its backoff at the attempts 2 and 3, the two sides of the limit. -/
theorem test_witness_BackoffEnds :
    let waits (n : Nat) : State := { sendingOn .backoff .reply with
      lc := { (sendingOn .backoff .reply).lc with
        attempts := n, replySlot := some ⟨⟨⟨reader, 1⟩, .ok, 0, []⟩, [0x2C], ⟨61, 10⟩⟩ } }
    ∀ n ∈ [2, 3], (waits n).powered = true ∧ (waits n).lc.tx = .backoff ∧ (waits n).lc.served = some .reply
      ∧ (waits n).lc.replySlot = some ⟨⟨⟨reader, 1⟩, .ok, 0, []⟩, [0x2C], ⟨61, 10⟩⟩ ∧ (waits n).lc.beaconSlot = none
      ∧ (waits n).lc.attempts = n := by decide

/-- A beacon in its backoff at the attempts 2 and 3, with the reply slot empty and with a reply waiting there. -/
theorem test_witness_BackoffEnds_beacon :
    let request : BeaconRequest := ⟨.scheduled, ⟨61, 10⟩⟩
    let placed : PlacedReply := ⟨⟨⟨reader, 1⟩, .ok, 0, []⟩, [0x2C], ⟨61, 20⟩⟩
    let waits (n : Nat) (r : Option PlacedReply) : State := { sendingOn .backoff .beacon with
      lc := { (sendingOn .backoff .beacon).lc with attempts := n, beaconSlot := some request, replySlot := r } }
    ∀ n ∈ [2, 3], ∀ r ∈ [none, some placed], (waits n r).powered = true ∧ (waits n r).lc.tx = .backoff
      ∧ (waits n r).lc.served = some .beacon ∧ (waits n r).lc.beaconSlot = some request ∧ (waits n r).lc.replySlot = r
      ∧ (waits n r).lc.attempts = n := by decide

/-- A beacon on the air with and without a reply waiting, the end of WAIT, and two frames ready in one phase. -/
theorem test_witness_TransmitterFreed :
    let alone : State := { replyWaits with lc := { replyWaits.lc with replySlot := none } }
    let wait : State := { chilled 61 with lc := { (chilled 61).lc with tx := .wait } }
    let both : State := { chilled 61 with lc := { (chilled 61).lc with
      beaconSlot := some ⟨.alert, ⟨61, 10⟩⟩, replySlot := replyWaits.lc.replySlot } }
    alone.powered = true ∧ alone.lc.tx = .sending ∧ alone.lc.onAir = some ⟨.beacon, [0x1B]⟩ ∧ alone.lc.beaconSlot = none
      ∧ alone.lc.replySlot = none ∧ replyWaits.lc.replySlot.isSome = true ∧ replyWaits.lc.tx = .sending
      ∧ wait.lc.tx = .wait ∧ wait.lc.beaconSlot = none ∧ wait.lc.replySlot = none ∧ (chilled 61).lc.tx ≠ .sending
      ∧ both.lc.tx = .idle ∧ both.lc.beaconSlot = some ⟨.alert, ⟨61, 10⟩⟩ ∧ both.lc.replySlot.isSome = true
      ∧ both.lc.replySlot.map (·.ready) = some ⟨61, 10⟩ := by decide

/-- The content and the open leg that a beacon is assembled from, with figures and without. -/
theorem test_witness_TransmitterFreed_fields :
    let content : BeaconContent := ⟨60, .own, some ⟨480, 455⟩, false, false, .chilled⟩
    let holds (c : BeaconContent) : State := { sendingOn .backoff .beacon with
      lc := { (sendingOn .backoff .beacon).lc with content := some c } }
    ∀ c ∈ [content, precoolContent], (holds c).lc.content = some c ∧ (holds c).es.openLeg = some leg2
      ∧ (holds c).powered = true ∧ (holds c).lc.tx = .backoff := by decide

/-- R41, R115 (log 44): an IDLE transmitter that a rise event and a LIVE reply reach at one moment sends the beacon. -/
theorem test_alert_before_live :
    let s : State := { chilled 61 with
      tb := { (chilled 61).tb with riseRef := some ⟨⟨60, 0⟩, 455⟩ }
      lc := { (chilled 61).lc with liveInFlight := some ⟨reader, 1⟩ } }
    let u := deliver false ⟨⟨61, 0⟩, ⟨true, false, true⟩, true, .temp 8500, none, none, none⟩ s
    u.lc.onAir.map (·.slot) = some .beacon ∧ u.lc.beaconSlot = none ∧ u.lc.replySlot.isSome = true
      ∧ u.lc.liveInFlight = none := by decide

/-- A reply on the air, and the beacon that became ready a millisecond before the reply. -/
theorem test_witness_TransmitterFreed_reply :
    let sent : State := { sendingOn .sending .reply with
      lc := { (sendingOn .sending .reply).lc with onAir := some ⟨.reply, [0x2C]⟩ } }
    let request : BeaconRequest := ⟨.scheduled, ⟨61, 9⟩⟩
    let s : State := { chilled 61 with lc := { (chilled 61).lc with
      beaconSlot := some request, replySlot := replyWaits.lc.replySlot } }
    sent.lc.tx = .sending ∧ sent.lc.onAir = some ⟨.reply, [0x2C]⟩ ∧ sent.powered = true ∧ s.lc.tx = .idle
      ∧ s.lc.beaconSlot = some request ∧ s.lc.replySlot.map (·.ready.interval) = some request.ready.interval
      ∧ s.lc.replySlot.map (·.ready.phase) = some (request.ready.phase + 1) ∧ sent.lc.tx ≠ .wait := by decide

/-! ## The evidence store -/

/-- Queues of none, three and four records, a checkpoint that waits unstarted, and 95 and 96 episodes stored. -/
theorem test_witness_RecordOffered :
    let leg := QueueRecord.leg leg2
    (writingQueue [leg, .checkpoint none]).es.criticalWaiting = false
      ∧ QueueRecord.checkpoint none ∈ (writingQueue [leg, .checkpoint none]).es.queue
      ∧ QueueRecord.checkpoint none ∉ (writingQueue [leg, leg, leg]).es.queue
      ∧ (writingQueue [leg, leg, leg]).es.queue.length < 4 ∧ (writingQueue [leg, leg, leg]).es.state ≠ .idle
      ∧ 4 ≤ (writingQueue [leg, leg, leg, leg]).es.queue.length ∧ leg ≠ .checkpoint none
      ∧ (chilled 61).es.queue = [] ∧ (chilled 61).es.state = .idle ∧ (chilled 61).sf.activity = .running
      ∧ (chilled 61).es.storedCount < 96
      ∧ ({ chilled 61 with es := { (chilled 61).es with storedCount := 95 } } : State).es.storedCount < 96
      ∧ 96 ≤ ({ chilled 61 with es := { (chilled 61).es with storedCount := 96 } } : State).es.storedCount
      ∧ (chilled 61).es.logFullNoted = false := by decide

/-- A CRITICAL checkpoint that waits, with an unstarted checkpoint queued, with a place free, and with none. -/
theorem test_witness_RecordOffered_critical :
    let waits (q : List QueueRecord) : State :=
      { writingQueue q with es := { (writingQueue q).es with criticalWaiting := true } }
    let leg := QueueRecord.leg leg2
    (waits [leg]).es.criticalWaiting = true ∧ QueueRecord.checkpoint none ∈ (waits [leg, .checkpoint none]).es.queue
      ∧ QueueRecord.checkpoint none ∉ (waits [leg, leg, leg]).es.queue ∧ (waits [leg, leg, leg]).es.queue.length < 4
      ∧ QueueRecord.checkpoint none ∉ (waits [leg, leg, leg, leg]).es.queue
      ∧ 4 ≤ (waits [leg, leg, leg, leg]).es.queue.length := by decide

/-- R123 (log 37): leg 16 written a second time has its slot empty from the start of the write, and after a failed
write no record of it is found. -/
theorem test_leg_rewritten :
    let old : Leg := { leg2 with number := 16 }
    let s : State := { chilled 61 with
      es := { (chilled 61).es with openLeg := none, legCount := 16 }
      nv := { (chilled 61).nv with legs := List.replicate 15 none ++ [some old] } }
    let u := offer (.leg { old with finish := some 61 }) s
    (legPlace 16 s).leg? = some old ∧ u.es.state = .writing ∧ (after .retentionLoss u).nv.legs[15]? = some none
      ∧ (legPlace 16 (after (.storeWriteEnd false false false) u)).leg? = none := by decide

/-- R138 (log 45): a leg opened over a stored record of its number and dropped at a full queue is found as that older
record. -/
theorem test_leg_dropped :
    let older : Leg := { leg2 with finish := some 40 }
    let full := writingQueue [.episode (episode .gap 20 (some 21) none), .episode (episode .gap 22 (some 23) none),
      .episode (episode .gap 24 (some 25) none), .episode (episode .gap 26 (some 27) none)]
    let s : State := { full with
      es := { full.es with openLeg := none }
      nv := { full.nv with legs := [none, some older] ++ List.replicate 14 none } }
    let u := offer (.leg { leg2 with finish := some 61 }) s
    legPlace 2 u = .stored older ∧ u.es.queue.length = 4 ∧ u.sf.sticky = 1#22 <<< 16 := by decide

theorem test_witness_CommissioningWriteEnds :
    let s : State := { writingQueue [.profile record] with
      cu := { (chilled 61).cu with custody := .commissioning, held := some ⟨reader, 1⟩ } }
    s.powered = true ∧ s.es.state = .writing ∧ s.es.queue = [.profile record] ∧ s.cu.held = some ⟨reader, 1⟩ := by decide

/-- An episode and a leg at the head, alone and with a leg behind them, RUNNING and HALTED, and a write's end below
1.90 V; a leg with two episodes behind it and a leg behind those, at 95 and at 96 stored. -/
theorem test_witness_RecordWriteEnds :
    let e := episode .gap 20 (some 21) (some ⟨0, 0⟩)
    let halted : State := { writingQueue [.leg leg2, .leg leg2] with sf := { (chilled 61).sf with activity := .halted } }
    let stored (n : Nat) : State := { writingQueue [.leg leg2, .episode e, .episode e, .leg leg2] with
      es := { (writingQueue [.leg leg2, .episode e, .episode e, .leg leg2]).es with storedCount := n } }
    (writingQueue [.episode e, .leg leg2]).powered = true ∧ (writingQueue [.episode e, .leg leg2]).es.state = .writing
      ∧ (writingQueue [.episode e]).es.queue = .episode e :: []
      ∧ (writingQueue [.episode e, .leg leg2]).es.queue = .episode e :: [.leg leg2]
      ∧ (writingQueue [.leg leg2]).es.queue = .leg leg2 :: []
      ∧ halted.sf.activity = .halted ∧ halted.es.queue = .leg leg2 :: [.leg leg2]
      ∧ (writingQueue [.leg leg2, .leg leg2]).sf.activity = .running ∧ (true && !true) = false ∧ (true && !false) = true
      ∧ (stored 96).es.queue.tail = [e, e].map QueueRecord.episode ++ [.leg leg2] ∧ 96 ≤ (stored 96).es.storedCount
      ∧ (stored 95).es.storedCount < 96 ∧ (stored 95).es.queue.tail.head? = some (.episode e)
      ∧ (after (.storeWriteEnd true true false) (writingQueue [.leg leg2])).sf.unread = 1 := by decide

/-- A checkpoint at the head with a checkpoint behind it, and an episode with one behind it. -/
theorem test_witness_RecordWriteEnds_checkpoint :
    let e := episode .gap 20 (some 21) (some ⟨0, 0⟩)
    (writingQueue [.checkpoint (some (sealCheckpoint base494)), .checkpoint none]).es.queue
        = .checkpoint (some (sealCheckpoint base494)) :: [.checkpoint none]
      ∧ (writingQueue [.episode e, .checkpoint none]).es.queue = .episode e :: [.checkpoint none] := ⟨rfl, rfl⟩

/-- The part in CLOSING with the certificate in its write, and with each closing record first in hand. -/
theorem test_witness_ClosingRecordsWritten :
    let closing (items : List ClosingItem) (s : State) : State :=
      { s with cu := { s.cu with custody := .closing, closing := items, held := some ⟨reader, 1⟩ } }
    let e := episode .gap 20 (some 21) none
    let full := closing [.leg leg2, .certificate] (writingQueue [.leg leg2, .leg leg2, .leg leg2, .leg leg2])
    let last := closing [.certificate] (chilled 61)
    (closing [] (writingQueue [.certificate cert])).es.queue = [.certificate cert]
      ∧ (closing [] (writingQueue [.certificate cert])).es.state = .writing
      ∧ (closing [] (writingQueue [.certificate cert])).cu.held = some ⟨reader, 1⟩
      ∧ full.powered = true ∧ full.cu.custody = .closing ∧ full.cu.closing = [.leg leg2, .certificate]
      ∧ 4 ≤ full.es.queue.length
      ∧ (closing [.episode e, .certificate] (writingQueue [.leg leg2, .leg leg2, .leg leg2])).es.queue.length < 4
      ∧ (closing [.checkpoint, .certificate] (chilled 61)).cu.closing = [.checkpoint, .certificate]
      ∧ (closing [.certificate] (writingQueue [.leg leg2])).es.queue ≠ []
      ∧ last.cu.closing = [.certificate] ∧ last.es.queue = [] ∧ last.es.state = .idle ∧ last.sf.activity = .running
      ∧ last.es.criticalWaiting = false := by decide

/-! ## Supply -/

theorem test_witness_SupplyCrossings :
    (chilled 61).powered = true ∧ (chilled 61).sf.supply = .good
      ∧ (atSupply .low .running false).powered = true ∧ (atSupply .low .running false).sf.supply = .low
      ∧ (atSupply .critical .running true).sf.supply = .critical
      ∧ (atSupply .critical .running true).sf.activity = .running
      ∧ (atSupply .critical .halted false).sf.supply = .critical
      ∧ (atSupply .critical .halted false).sf.activity = .halted ∧ (chilled 61).sf.supply ≠ .critical
      ∧ (atSupply .low .running false).sf.supply ≠ .good
      ∧ (after .supplyLow (chilled 61)).sf.supply = .low
      ∧ (after .supplyRecover (atSupply .critical .halted false)).sf.supply = .low := by decide

/-- R52, R173 (log 41): the interval of a recovery from HALTED has no further scheduled burst, and a halt given up keeps
its compare value (R174). -/
theorem test_recovery_clears_compare :
    (atSupply .critical .halted false).tb.compare = some 30000
      ∧ (after .supplyRecover (atSupply .critical .halted false)).tb.compare = none
      ∧ (after .haltReady (atSupply .low .running true)).tb.compare = some 30000 := by decide

/-- The sound part at LOW. -/
def lowSound : State := atSupply .low .running false

theorem lowSound_converter : lowSound.ConverterSound where
  idle := by decide
  quiet := by decide
  inFlight := by decide
  waiting := by decide
  deferred acc h := by cases h

theorem lowSound_custody : lowSound.CustodySound where
  noCause := by decide
  broken := by decide
  started := by decide
  notStarted := by decide
  leg := by decide
  accumulators := by decide
  waiting := by decide
  blank := by decide
  profile r h := by cases h
  commissioning h := by cases h
  certificate c h := by cases h
  closing h := by cases h

theorem test_witness_CriticalEntry :
    lowSound.powered = true ∧ lowSound.sf.supply = .low ∧ lowSound.sf.haltPending = false ∧ lowSound.ConverterSound
      ∧ lowSound.CustodySound ∧ lowSound.es.criticalWaiting = false ∧ lowSound.cu.custody.inService = true
      ∧ (atSupply .low .running true).powered = true ∧ (atSupply .low .running true).sf.supply = .low
      ∧ (atSupply .low .running true).sf.haltPending = true :=
  ⟨rfl, rfl, rfl, lowSound_converter, lowSound_custody, rfl, rfl, rfl, rfl, rfl⟩

/-- A deferred close and a credited burst at LOW, for the close that the entry runs; and CLOSED at LOW. -/
theorem test_witness_CriticalEntry_deferred :
    let s : State := { lowSound with
      mc := ⟨.settling ⟨⟨60, 59999⟩, ⟨true, false, false⟩, true, false⟩, ⟨false, false, false⟩, none⟩
      ie := { lowSound.ie with old := some (Accumulator.empty 60) } }
    let out : State := { closed with sf := { closed.sf with supply := .low } }
    s.ie.old = some (Accumulator.empty 60) ∧ s.sf.supply = .low ∧ s.mc.burst ≠ .idle ∧ s.cu.custody.inService = true
      ∧ (after (.supplyCritical false) s).ie.lastClosed = some 60
      ∧ (after (.supplyCritical false) s).es.queue.length = 1
      ∧ out.cu.custody.inService = false ∧ out.sf.supply = .low ∧ out.sf.haltPending = false := by decide

/-- A waiting CRITICAL checkpoint with an unstarted checkpoint queued, with a place free, and with none. -/
theorem test_witness_CriticalEntry_offer :
    let waits (q : List QueueRecord) : State :=
      { writingQueue q with es := { (writingQueue q).es with criticalWaiting := true } }
    let leg := QueueRecord.leg leg2
    (waits [leg]).powered = true ∧ (waits [leg]).es.criticalWaiting = true
      ∧ QueueRecord.checkpoint none ∈ (waits [leg, .checkpoint none]).es.queue
      ∧ QueueRecord.checkpoint none ∉ (waits [leg, leg, leg]).es.queue ∧ (waits [leg, leg, leg]).es.queue.length < 4
      ∧ (waits [leg, leg, leg]).es.state = .writing
      ∧ QueueRecord.checkpoint none ∉ (waits [leg, leg, leg, leg]).es.queue
      ∧ 4 ≤ (waits [leg, leg, leg, leg]).es.queue.length := by decide

theorem test_witness_HaltReadyHalts :
    let ready (s : State) : Prop := s.sf.haltPending = true ∧ s.es.criticalWaiting = false ∧ s.es.queue = []
      ∧ s.es.state = .idle ∧ s.cu.custody ≠ .closing
    ready (atSupply .critical .running true) ∧ (atSupply .critical .running true).sf.supply = .critical
      ∧ ready (atSupply .low .running true) ∧ (atSupply .low .running true).sf.supply ≠ .critical
      ∧ ¬ ready (chilled 61) ∧ (chilled 61).powered = true := by
  simp only; decide

theorem test_witness_PowerLostAndBlankPowerOn :
    (chilled 61).powered = true ∧ blank.nv.profile = none ∧ erasing.nv.eraseMarker = true
      ∧ (after .retentionLoss (chilled 61)).powered = false ∧ (∀ mv, Instr.intervalBoundary ≠ .powerOn mv)
      ∧ (2349 < 2350 ∧ 2350 < 2600) := by
  refine ⟨rfl, rfl, rfl, rfl, fun mv => by simp, by decide⟩

theorem test_witness_PowerOnClosed :
    closed.nv.eraseMarker = false ∧ closed.nv.profile = some record ∧ closed.nv.certificate = some cert
      ∧ (∀ (k : Nat) (c : Checkpoint), closed.nv.checkpoints[k]? ≠ some (some c)) ∧ cert.endInterval = some 60 := by
  refine ⟨by decide, by decide, by decide, fun k c h => ?_, rfl⟩
  exact absurd (List.eq_of_mem_replicate (n := 8) (a := none) (List.mem_of_getElem? h)) (by simp)

/-- The one checkpoint of chapter 10's worked example is the newest of its slots, and the only one. -/
theorem test_cellChange_newest :
    cellChange.checkpoints[0]? = some (some ⟨base494, crc16 (Config.checkpointBytes base494)⟩)
      ∧ ∀ (j : Nat) (c : Checkpoint), cellChange.checkpoints[j]? = some (some c) → j = 0 ∧ c.content = base494 := by
  refine ⟨rfl, fun j c h => ?_⟩
  match j with
  | 0 => exact ⟨rfl, by simp only [cellChange, List.getElem?_cons_zero, Option.some.injEq] at h; rw [← h]; rfl⟩
  | j + 1 => exact absurd (List.eq_of_mem_replicate (n := 7) (a := none) (List.mem_of_getElem? h)) (by simp)

/-- The cell change of chapter 10's worked example, a store with no checkpoint, and a voltage just below 2.35 V. -/
theorem test_witness_PowerOnBroken :
    let s : State := { chilled 507 with nv := cellChange }
    s.nv.eraseMarker = false ∧ s.nv.profile = some record ∧ s.nv.certificate = none ∧ s.nv.used = some base494
      ∧ (chilled 507).nv.eraseMarker = false ∧ (chilled 507).nv.certificate = none ∧ (chilled 507).nv.used = none
      ∧ base494.causes.nonempty = false ∧ 2349 < 2350 :=
  ⟨rfl, rfl, rfl, test_cellChange_used, rfl, rfl, by decide, rfl, by decide⟩

/-- R177's open-leg cases at their edges, a valid checkpoint used and none, episodes stored and not, and 96 stored. -/
theorem test_witness_PowerOnBroken_cases :
    let fifteen : Leg := { leg2 with number := 15 }
    let sixteen : Leg := { leg2 with number := 16 }
    let none16 : List (Option Leg) := List.replicate 16 none
    let leg16 := List.replicate 15 none ++ [some sixteen]
    let full : List (Option Episode) := List.replicate 96 (some (episode .gap 20 (some 21) none))
    newest cellChange.valid = some (0, base494) ∧ newest (chilled 507).nv.valid = none
      ∧ highestLeg (none16.filterMap id) = none ∧ highestLeg ([some fifteen].filterMap id) = some fifteen
      ∧ highestLeg (leg16.filterMap id) = some sixteen ∧ fifteen.number < 16 ∧ 16 ≤ sixteen.number
      ∧ base494.openLeg.isSome = true ∧ base494.legCount < 16 ∧ (15 < 16 ∧ 16 ≤ 16)
      ∧ countStored cellChange.episodes = 16 ∧ countStored full = 96 ∧ (2350 ≤ 2350 ∧ 2600 ≤ 2600) := by
  refine ⟨?_, by decide, by decide⟩
  simp [Areas.valid, cellChange, validFrom, newest, Checkpoint.valid, sealCheckpoint, List.replicate]

/-! ## The interval close -/

theorem test_witness_CloseCountsRecordsAndHandsOn :
    (chilled 61).cu.custody = .chilled ∧ TableSound (chilled 61).info.serial (chilled 61).nt
      ∧ (chilled 61).ie.gapRun ≤ 255
      ∧ (chilled 61).ie.counts.own + (chilled 61).ie.counts.air + (chilled 61).ie.counts.witness
        + (chilled 61).ie.counts.bridged + (chilled 61).ie.counts.unbridged + (chilled 61).ie.gapRun < 16776255
      ∧ (chilled 61).ie.counts.raised < 16777215 :=
  ⟨rfl, oneNeighbour_sound 61, by decide, by decide, by decide⟩

/-- A close that starts custody and one that does not, both out of PRECOOL; intervals 59 and 60 on the two sides of a
periodic checkpoint, the partial close apart; and a peer at age 5 that leaves. -/
theorem test_witness_CloseCountsRecordsAndHandsOn_cases :
    let s := inCustodyState .precool
    let ages (n : Nat) : State := { chilled 61 with nt := some (peer 0x00A10033 50 n 120) :: List.replicate 23 none }
    s.cu.custody = .precool ∧ (closeEvidence (measured 61 500 0) s).coverage = .own
      ∧ (closeEvidence (measured 61 500 0) s).figures = some ⟨500, 0⟩
      ∧ (closeEvidence (measured 61 501 0) s).figures = some ⟨501, 0⟩ ∧ (59 % 15 = 14 ∧ 60 % 15 ≠ 14)
      ∧ (closeInterval false (measured 59 480 455) (chilled 60)).es.state = .writing
      ∧ (closeInterval true (measured 59 480 455) (chilled 60)).es.state = .idle
      ∧ (closeInterval false (measured 60 480 455) (chilled 61)).es.state = .idle
      ∧ (closeInterval false (measured 61 480 455) (ages 5)).nt[0]? = some none
      ∧ (closeInterval false (measured 61 480 455) (ages 4)).nt[0]? = some (some (peer 0x00A10033 50 5 120)) := by
  decide

/-- No run, a run of one, and a run past its allowance, each before a covered minute. -/
theorem test_witness_CloseCoversAndCharges :
    let run (n : Nat) (mark : Bool) : State := { chilled 61 with ie := { (chilled 61).ie with gapRun := n, mark := mark } }
    (chilled 61).cu.custody.charges = true
      ∧ (closeEvidence (measured 61 560 510) (chilled 61)).figures = some ⟨560, 510⟩
      ∧ (closeEvidence (measured 61 560 510) (run 1 false)).figures = some ⟨560, 510⟩
      ∧ (closeEvidence (measured 61 560 510) (run 3 true)).figures = some ⟨560, 510⟩
      ∧ (chilled 61).ie.gapRun = 0 ∧ (run 1 false).ie.mark = false ∧ 0 < (run 1 false).ie.gapRun
      ∧ (run 3 true).ie.mark = true
      ∧ (inCustodyState .precool).cu.custody = .precool
      ∧ (closeEvidence (measured 61 560 510) (inCustodyState .precool)).figures = some ⟨560, 510⟩
      ∧ (closeEvidence (Accumulator.empty 61) (inCustodyState .precool)).figures = none := by decide

/-- Chapter 4, "fallback cover and an excursion", intervals 121 to 123: AIR 520 and 390, WITNESS 518 and 425, GAP; with
a HALTED part, and the uses off. -/
theorem test_witness_CloseCoversAndCharges_coverage :
    let p : Profile := { roundProfile with airUse := true, witnessUse := true }
    let s : State := { chilled 121 with cu := { (chilled 121).cu with commissioned := some ⟨p, []⟩ } }
    let air : Accumulator := ⟨121, none, 0, some ⟨470, 440⟩, 2, 2, ⟨true, false, false⟩⟩
    let halted : State := { s with sf := { s.sf with supply := .critical, activity := .halted } }
    coverageOf air s = ⟨.air, some ⟨520, 390⟩, none⟩
      ∧ coverageOf (Accumulator.empty 121) s = ⟨.witness, some ⟨518, 425⟩, some 0x00A10033⟩
      ∧ witnessFor 121 s = some (peer 0x00A10033 121 0 120) ∧ witnessFor 122 s = none
      ∧ coverageOf air (chilled 121) = ⟨.gap, none, none⟩ ∧ halted.sf.activity = .halted
      ∧ s.sf.activity = .running ∧ (coverageOf air s).coverage ≠ .own := by decide

/-- The consensus set at two and three peers, figures at the limit and below it, and runs of 3, 4 and 5. -/
theorem test_witness_CloseCoversAndCharges_consensus :
    let three : List (Option Peer) :=
      [some (peer 1 61 0 120), some (peer 2 61 0 120), some (peer 3 61 0 120)] ++ List.replicate 21 none
    let s (n : Nat) : State := { chilled 61 with nt := three, ie := { (chilled 61).ie with consensusRun := n } }
    (consensusSet 61 (s 0)).length = 3 ∧ (consensusSet 61 (chilled 61)).length = 1 ∧ medianOf [488, 488, 488] = 488
      ∧ (closeConsensus (measured 61 388 380) (s 4)).raised = false
      ∧ (closeConsensus (measured 61 387 380) (s 3)).raised = false
      ∧ (closeConsensus (measured 61 387 380) (s 4)) = ⟨5, some ⟨388, 380⟩, true, 488⟩
      ∧ (s 4).sf.context = none ∧ (closeConsensus (measured 61 387 380) (s 5)).run = 6 := by decide

/-- GAP minutes at the runs 254 and 255, the closes that make no charge. -/
theorem test_witness_CloseCoversAndCharges_gap :
    let run (n : Nat) : State := { chilled 61 with ie := { (chilled 61).ie with gapRun := n } }
    (closeEvidence (Accumulator.empty 61) (run 255)).figures = none ∧ (run 255).ie.gapRun ≤ 255
      ∧ (closeInterval false (Accumulator.empty 61) (run 254)).ie.counts.unbridged = 0
      ∧ (closeInterval false (Accumulator.empty 61) (run 255)).ie.counts.unbridged = 1
      ∧ (closeInterval true (Accumulator.empty 61) (run 255)).ie.counts.unbridged = 256 := by decide

/-- Figures just at the chill range's ends start custody; the allowance is reached at the last close before it. -/
theorem test_witness_PrecoolCloseDecides :
    let s (n : Nat) : State := { inCustodyState .precool with ie := { (chilled 61).ie with precoolCount := n } }
    (s 28).cu.custody = .precool ∧ (s 28).cu.causes = ⟨false, false, false, false, false, false⟩
      ∧ (s 29).ie.precoolCount < (s 29).profile.precoolLimit ∧ (s 29).profile.precoolLimit ≤ 240
      ∧ (closeEvidence (measured 61 500 0) (s 28)).coverage = .own
      ∧ (closeEvidence (measured 61 500 0) (s 28)).figures = some ⟨500, 0⟩
      ∧ (closeEvidence (measured 61 501 0) (s 28)).figures = some ⟨501, 0⟩
      ∧ (s 28).ie.precoolCount + 1 < (s 28).profile.precoolLimit
      ∧ (s 29).ie.precoolCount + 1 = (s 29).profile.precoolLimit := by decide

/-- An open leg with sums in range, no episode open, and the last close of the allowance while the store writes. -/
theorem test_witness_PrecoolCloseDecides_leg :
    let s : State := { inCustodyState .precool with
      ie := { (chilled 61).ie with precoolCount := 29 }
      es := { (chilled 61).es with state := .writing } }
    s.cu.custody = .precool ∧ s.es.openLeg = some leg2 ∧ leg2.own < 16777215 ∧ leg2.charges.warm ≤ 16777215
      ∧ leg2.charges.cold ≤ 16777215 ∧ s.es.openExcursion = none ∧ s.es.openGap = none ∧ s.es.openCover = none
      ∧ s.ie.precoolCount + 1 = s.profile.precoolLimit ∧ (closeEvidence (measured 61 501 0) s).figures = some ⟨501, 0⟩
      ∧ s.es.criticalWaiting = false ∧ s.es.state ≠ .idle ∧ s.es.queue.length < 4
      ∧ (closeInterval false (measured 61 501 0) s).cu.custody = .broken
      ∧ (closeInterval false (measured 61 501 0) s).es.queue.length = 1
      ∧ (closeInterval true (measured 61 500 0) s).cu.custody = .precool := by decide

/-- A first cause (the peak at 1000), none at 999, and a cause in BROKEN. -/
theorem test_witness_CustodyCloseDecides :
    let broken : State := { inCustodyState .broken with
      cu := { (inCustodyState .broken).cu with causes := ⟨true, false, false, false, false, false⟩ } }
    (chilled 61).cu.custody.charges = true ∧ (chilled 61).cu.custody ≠ .broken
      ∧ (chilled 61).cu.causes.nonempty = false
      ∧ (closeFound false (measured 61 1000 510) (chilled 61)).nonempty = true
      ∧ (closeFound false (measured 61 999 510) (chilled 61)).nonempty = false
      ∧ broken.cu.custody.charges = true ∧ broken.cu.custody = .broken ∧ broken.cu.causes.nonempty = true := by decide

/-- Chapter 4, "a bridged gap": the EXCURSION opens at 63 beside the GAP episode that ends with its bridge, and a queue
with just the room for what a close can end and break. -/
theorem test_witness_CustodyCloseDecides_episodes :
    let gap : Episode :=
      ⟨.gap, none, 2, 61, none, 0, 0, 0, none, 0, 0, none, ⟨false, false, false, false, false, false⟩, false⟩
    let s : State := { chilled 63 with
      ie := { (chilled 63).ie with gapRun := 2 }
      es := { (chilled 63).es with openGap := some gap, state := .writing, queue := [.leg leg2, .leg leg2] } }
    let t := closeInterval false (measured 63 1060 510) s
    s.es.criticalWaiting = false ∧ s.es.state ≠ .idle ∧ s.es.queue.length + 1 + 1 ≤ 4
      ∧ t.es.openExcursion.map (fun e => (e.start, e.charges)) = some (63, some ⟨560, 0⟩) ∧ t.es.openGap = none
      ∧ t.es.queue = [.leg leg2, .leg leg2,
          .episode { gap with finish := some 62, count := 2, charges := some ⟨1120, 0⟩ },
          .episode ⟨.brk, none, 2, 63, some 63, 1, 0, 0, none, 0, 0, none,
            ⟨true, false, false, false, false, false⟩, false⟩] := by decide

end Sys2Proof.Tests
end

section
/-! SUPPORT. What COMMISSION (R5) and the custody stage of a close in PRECOOL (R9, R11, R13, R136) do, case by case, and
the statements O22 and O59 settled from it. -/

namespace Sys2Proof.Machine

/-! ## Joining the write queue in its plain cases -/

/-- A record that is no checkpoint to be merged joins a queue with room, where no CRITICAL checkpoint waits before it
(R125, R126, R129). -/
theorem offer_of_room {r : QueueRecord} {s : State} (hr : r ≠ .checkpoint none) (hw : s.es.criticalWaiting = false)
    (hq : s.es.queue.length < 4) : offer r s = joinQueue r s := by
  simp [offer, admitCritical_of_none s hw, QueueRecord.merges, hr, queueLimit, hq]

/-- A store at work, or HALTED, holds a record that joins as the last (R127, R130). -/
theorem joinQueue_of_held (r : QueueRecord) {s : State} (h : s.es.state ≠ .idle ∨ s.sf.activity = .halted) :
    joinQueue r s = { s with es := { s.es with queue := s.es.queue ++ [r] } } := by
  have hn : ¬ (s.es.state = .idle ∧ s.sf.activity = .running) := by
    rintro ⟨hi, ha⟩
    simp [hi, ha] at h
  simp [joinQueue, startWrites, hn]

/-- An IDLE store with an empty queue starts a profile record's write at once (R127). -/
theorem joinQueue_profile_of_idle (r : ProfileRecord) {s : State} (hq : s.es.queue = []) (hi : s.es.state = .idle)
    (ha : s.sf.activity = .running) : joinQueue (.profile r) s = writing [.profile r] s := by
  simp [joinQueue, startWrites, hq, hi, ha, writeHead, writing]

/-! ## COMMISSION -/

theorem takeCommission_of_accepted (who : Asker) {payload : List Byte} (busy : Bool) {r : ProfileRecord} {s : State}
    (h : s.cu.custody = .blank) (hr : checkProfile payload = some r) :
    takeCommission who payload busy s = acceptCommission who r s := by
  simp [takeCommission, h, hr]

theorem takeCommission_of_refused (who : Asker) {payload : List Byte} (busy : Bool) {s : State}
    (h : s.cu.custody = .blank) (hr : checkProfile payload = none) :
    takeCommission who payload busy s = answer who .badProfile [] busy s := by
  simp [takeCommission, h, hr]

theorem takeCommission_of_not_blank (who : Asker) (payload : List Byte) (busy : Bool) {s : State}
    (h : s.cu.custody ≠ .blank) :
    takeCommission who payload busy s =
      answer who .notBlank (idBytes ((s.cu.commissioned.map (·.consignment)).getD [])) busy s :=
  if_neg h

/-- An accepted COMMISSION on an idle store: the profile record is in its write (R5, R127). -/
theorem acceptCommission_of_idle (who : Asker) (r : ProfileRecord) {s : State} (hq : s.es.queue = [])
    (hi : s.es.state = .idle) (hw : s.es.criticalWaiting = false) (ha : s.sf.activity = .running) :
    acceptCommission who r s =
      writing [.profile r]
        { s with
          cu := { s.cu with commissioned := some r, custody := .commissioning, held := some who }
          es := { s.es with openLeg := some (firstLeg r.profile who.reader), legCount := 1 } } :=
  Eq.trans (offer_of_room nofun hw (by simp [hq])) (joinQueue_profile_of_idle r hq hi ha)

/-- A reader command in a state that is busy for its kind is answered BUSY, whatever its length (R110, step 4). -/
theorem examineCommand_of_busy {kind : CommandKind} {f : CommandFrame} (busy : Bool) {s : State}
    (ht : f.target = s.info.serial) (hb : busyState kind s.cu.custody = true) :
    examineCommand kind f busy (countGood s) = placeReply ⟨askerOf f, .busy, 0, []⟩ busy s.taken := by
  have ht' : f.target = (countGood s).info.serial := by simpa [countGood] using ht
  have hb' : busyState kind (countGood s).cu.custody = true := by simpa [countGood] using hb
  simp only [examineCommand, ht', hb', ne_eq, not_true_eq_false, if_false, if_true]
  rfl

/-- Settles O22: each command reaches `takeCommission` or the BUSY answer of R110, and the write queue takes the profile
record in its plain case. -/
theorem commissionTaken : Obligations.CommissionTaken := by
  refine ⟨fun f busy s r ht hblank hq hi hw ha hr => ?accepted, fun f busy s ht => ⟨fun hblank hr => ?refused,
    fun hblank => ?elsewhere⟩, fun f busy s hrec htarget hc => ?busy⟩
  case accepted =>
    have hroom := acceptCommission_of_idle (s := s.taken) (askerOf f) r hq hi hw ha
    rw [exec_taken ht _ busy rfl, dispatchCommand, takeCommission_of_accepted (s := s.taken) _ _ hblank hr, hroom]
    rfl
  case refused =>
    rw [exec_taken ht _ busy rfl, dispatchCommand, takeCommission_of_refused (s := s.taken) _ _ hblank hr]
    rfl
  case elsewhere =>
    rw [exec_taken ht _ busy rfl, dispatchCommand, takeCommission_of_not_blank (s := s.taken) _ _ _ hblank]
    rfl
  case busy =>
    have hb : busyState .commission s.cu.custody = true := by
      rcases hc with hc | hc | hc <;> simp [hc, busyState]
    rw [exec_reader hrec _ _ _ _ rfl, examineCommand_of_busy busy htarget hb]

/-! ## A close in PRECOOL -/

/-- The part after stages 1 to 6 of a whole close in PRECOOL, with the precool counter advanced (R9). -/
def precoolAdvanced (acc : Accumulator) (s : State) : State :=
  { afterRecord false acc s with
    ie := { (afterRecord false acc s).ie with precoolCount := s.ie.precoolCount + 1 } }

@[simp] theorem precoolAdvanced_cu (acc : Accumulator) (s : State) : (precoolAdvanced acc s).cu = s.cu := by
  simp [precoolAdvanced]

@[simp] theorem precoolAdvanced_es (acc : Accumulator) (s : State) : (precoolAdvanced acc s).es = s.es := by
  simp [precoolAdvanced]

@[simp] theorem precoolAdvanced_precoolCount (acc : Accumulator) (s : State) :
    (precoolAdvanced acc s).ie.precoolCount = s.ie.precoolCount + 1 := rfl

theorem precoolAdvanced_activity (acc : Accumulator) (s : State) :
    (precoolAdvanced acc s).sf.activity = s.sf.activity := by
  obtain ⟨_, hactivity, _⟩ := (afterRecord_notes false acc s).supply
  exact hactivity

/-- The break of custody that running out of the precool allowance is (R9, R11). -/
def precoolBroken (n : Nat) (cu : CustodyBlock) : CustodyBlock :=
  { cu with custody := .broken, breakInterval := some n, causes := { Causes.empty with precool := true } }

/-- Stage 9 leaves the exposure engine as stage 8 left it. -/
theorem closeInterval_ie_eq (p : Bool) (acc : Accumulator) (s : State) :
    (closeInterval p acc s).ie = (afterCustody p acc s).ie := by
  simp [closeInterval]

/-- Stage 9 leaves the open leg as stage 8 left it. -/
theorem closeInterval_openLeg (p : Bool) (acc : Accumulator) (s : State) :
    (closeInterval p acc s).es.openLeg = (afterCustody p acc s).es.openLeg := by
  simp only [closeInterval, handOn]
  split <;> simp

/-- The partial close offers no periodic checkpoint: the store stays as stage 8 left it (R88). -/
theorem closeInterval_partial_store (acc : Accumulator) (s : State) :
    (closeInterval true acc s).es = (afterCustody true acc s).es
      ∧ (closeInterval true acc s).nv = (afterCustody true acc s).nv := by
  simp [closeInterval, handOn]

theorem afterRecord_precoolCount (p : Bool) (acc : Accumulator) (s : State) :
    (afterRecord p acc s).ie.precoolCount = s.ie.precoolCount := by
  simp [afterRecord]

/-- Outside CHILLED, EXCURSION and BROKEN nothing is charged (R71). -/
theorem closeCharges_other (p : Bool) (acc : Accumulator) {s : State} (h : s.cu.custody.charges = false) :
    (closeCharges p acc s).2 = ⟨⟨0, 0⟩, none, 0, false⟩ := by
  simp [closeCharges, chargeStage, h]

/-- A first cause breaks custody at its interval and offers the BREAK episode (R3, R11). -/
theorem addCauses_first {new : Causes} (n : Nat) {s : State} (hn : new.nonempty = true)
    (hs : s.cu.causes = Causes.empty) :
    addCauses new n s =
      offer (.episode (breakEpisode s.legNumber n new))
        { s with cu := { s.cu with causes := new, breakInterval := some n, custody := .broken } } := by
  have he : s.cu.causes.nonempty = false := by rw [hs]; rfl
  simp [addCauses, hn, he]

/-- An OWN interval without charges adds its minute and its figures to a leg with sums in range (R136). -/
theorem addToLeg_own_uncharged (f : Figures) {l : Leg} (hown : l.own < 16777215) (hwarm : l.charges.warm ≤ 16777215)
    (hcold : l.charges.cold ≤ 16777215) :
    addToLeg .own (some f) ⟨0, 0⟩ none l =
      { l with
        own := l.own + 1
        figures := some (match l.figures with | some g => ⟨max g.hi f.hi, min g.lo f.lo⟩ | none => f) } := by
  have ho : satAdd max24 l.own 1 = l.own + 1 := by unfold satAdd max24; omega
  have hc : addCharges (addCharges l.charges ⟨0, 0⟩) ⟨0, 0⟩ = l.charges := by
    simp [addCharges, satAdd, max24, hwarm, hcold]
  cases hg : l.figures <;> simp [addToLeg, hg, ho, hc]

/-- Stage 7 of an OWN interval adds it into the open leg (R136). -/
theorem episodeStage_openLeg (n : Nat) (ev : Evidence) (c : Charged) (s : State) :
    (episodeStage n ev c s).es.openLeg = s.es.openLeg.map (addToLeg ev.coverage ev.figures c.own c.bridge) := by
  simp [episodeStage]

/-- With no episode open an uncharged OWN interval opens and ends none: only the open leg changes (R84 to R86). -/
theorem episodeStage_own_uncharged (n : Nat) {ev : Evidence} {f : Figures} {s : State} (hcov : ev.coverage = .own)
    (hf : ev.figures = some f) (hx : s.es.openExcursion = none) (hg : s.es.openGap = none)
    (hc : s.es.openCover = none) :
    (episodeStage n ev ⟨⟨0, 0⟩, none, 0, false⟩ s).es =
      { s.es with openLeg := s.es.openLeg.map (addToLeg .own (some f) ⟨0, 0⟩ none) } := by
  simp [episodeStage, excursionStage, gapStage, coverStage, hcov, hf, hx, hg, hc, offerAll]

/-- An episode that a close in PRECOOL offers to a store at work, or HALTED, with room, joins the queue as its last
(R125, R130). -/
theorem offer_precoolAdvanced_of_held (e : Episode) (cu : CustodyBlock) {acc : Accumulator} {s : State}
    (hw : s.es.criticalWaiting = false) (hs : s.es.state ≠ .idle ∨ s.sf.activity = .halted)
    (hq : s.es.queue.length < 4) :
    (offer (.episode e) { precoolAdvanced acc s with cu := cu }).es =
      { s.es with queue := s.es.queue ++ [.episode e] } := by
  rw [offer_of_room (r := .episode e) nofun (by simpa using hw) (by simpa using hq),
    joinQueue_of_held _ (by simpa [precoolAdvanced_activity] using hs)]
  simp

/-- The number of the leg that an episode of a close is filed under (R131). -/
theorem legNumber_eq_match (s : State) :
    s.legNumber = match s.es.openLeg with | some l => l.number | none => 0 := by
  unfold State.legNumber
  cases s.es.openLeg <;> rfl

section
variable {acc : Accumulator} {s : State} (hp : s.cu.custody = .precool)
include hp

/-- A whole close in PRECOOL starts custody at coverage OWN with both figures in the chill range (R9). -/
theorem closeStarts_iff :
    closeStarts false acc s = true ↔
      (closeEvidence acc s).coverage = .own
        ∧ ∃ f, (closeEvidence acc s).figures = some f ∧ s.profile.lower ≤ f.lo ∧ f.hi ≤ s.profile.upper := by
  cases hf : (closeEvidence acc s).figures <;> simp [closeStarts, startsCustody, hp, hf]

/-- In PRECOOL stage 8 judges by R9 and not by R10 to R12. -/
theorem afterCustody_precool (p : Bool) :
    afterCustody p acc s = precoolStage p (closeStarts p acc s) acc.interval (afterEpisodes p acc s) := by
  simp [afterCustody, hp, Custody.charges]

/-- A PRECOOL close that does not start custody is no custody interval, and skips stage 7 (R72, R88). -/
theorem afterEpisodes_precool_other {p : Bool} (h : closeStarts p acc s = false) :
    afterEpisodes p acc s = afterRecord p acc s := by
  simp [afterEpisodes, isCustodyInterval, hp, h, Custody.charges]

/-- The close that starts custody is a custody interval without charges (R9, R71, R88). -/
theorem afterEpisodes_precool_starts (h : closeStarts false acc s = true) :
    afterEpisodes false acc s =
      episodeStage acc.interval (closeEvidence acc s) ⟨⟨0, 0⟩, none, 0, false⟩ (afterRecord false acc s) := by
  have hcharges : s.cu.custody.charges = false := by rw [hp]; rfl
  simp [afterEpisodes, isCustodyInterval, h, closeCharges_other false acc hcharges]

/-- The close that starts custody (R9). -/
theorem afterCustody_of_starts (h : closeStarts false acc s = true) :
    afterCustody false acc s =
      { episodeStage acc.interval (closeEvidence acc s) ⟨⟨0, 0⟩, none, 0, false⟩ (afterRecord false acc s) with
        cu := { s.cu with custody := .chilled, custodyStart := some acc.interval } } := by
  rw [afterCustody_precool hp, afterEpisodes_precool_starts hp h]
  simp [precoolStage, h]

/-- A whole close that does not start custody advances the counter and judges it against the allowance (R9). -/
theorem afterCustody_of_not_starts (h : closeStarts false acc s = false) (hc : s.ie.precoolCount < 240) :
    afterCustody false acc s =
      if s.ie.precoolCount + 1 = s.profile.precoolLimit then
        addCauses { Causes.empty with precool := true } acc.interval (precoolAdvanced acc s)
      else precoolAdvanced acc s := by
  have hsat : satAdd 240 s.ie.precoolCount 1 = s.ie.precoolCount + 1 := by unfold satAdd; omega
  rw [afterCustody_precool hp, afterEpisodes_precool_other hp h]
  simp [precoolStage, h, hsat, afterRecord_precoolCount, precoolAdvanced, State.profile]

/-- Such a close adds nothing to the open leg (R88, R136). -/
theorem afterCustody_openLeg_of_not_starts (h : closeStarts false acc s = false) (hc : s.ie.precoolCount < 240) :
    (afterCustody false acc s).es.openLeg = s.es.openLeg := by
  rw [afterCustody_of_not_starts hp h hc]
  unfold addCauses
  repeat' split
  all_goals simp

/-- Short of the allowance such a close does no more than advance the counter (R9). -/
theorem afterCustody_of_within (h : closeStarts false acc s = false) (hc : s.ie.precoolCount < 240)
    (hl : s.ie.precoolCount + 1 < s.profile.precoolLimit) : afterCustody false acc s = precoolAdvanced acc s := by
  rw [afterCustody_of_not_starts hp h hc, if_neg hl.ne]

/-- The close that exhausts the allowance breaks custody and offers the BREAK episode (R9, R11). -/
theorem afterCustody_of_exhausted (h : closeStarts false acc s = false) (hc : s.ie.precoolCount < 240)
    (hs : s.cu.causes = Causes.empty) (hl : s.ie.precoolCount + 1 = s.profile.precoolLimit) :
    afterCustody false acc s =
      offer (.episode (breakEpisode s.legNumber acc.interval { Causes.empty with precool := true }))
        { precoolAdvanced acc s with cu := precoolBroken acc.interval s.cu } := by
  rw [afterCustody_of_not_starts hp h hc, if_pos hl, addCauses_first _ rfl (by simpa using hs)]
  simp only [State.legNumber, precoolAdvanced_cu, precoolAdvanced_es, precoolBroken]

/-- The partial close in PRECOOL leaves stage 8 nothing to do (R13). -/
theorem afterCustody_precool_partial : afterCustody true acc s = afterRecord true acc s := by
  have h : closeStarts true acc s = false := by simp [closeStarts, startsCustody]
  rw [afterCustody_precool hp, afterEpisodes_precool_other hp h]
  rfl

end

/-- Settles O59: stage 8 of a whole close in PRECOOL is one of three cases (custody starts, the counter advances, or it
runs out), and stage 9 leaves custody, the counter and the leg as stage 8 left them. -/
theorem precoolCloseDecides : Obligations.PrecoolCloseDecides := by
  refine ⟨fun acc s hp hcauses hcount hlimit => ?whole, fun acc s hp => ?partialClose⟩
  case whole =>
    have hc : s.ie.precoolCount < 240 := by omega
    have hcu := closeInterval_cu false acc s
    have hie := closeInterval_ie_eq false acc s
    have hleg := closeInterval_openLeg false acc s
    have hes : (afterRecord false acc s).es = s.es := by simp
    intro ev t s8 starts broken leg brk
    have hstarts (h : starts) : closeStarts false acc s = true := (closeStarts_iff hp).mpr h
    have hother (h : ¬ starts) : closeStarts false acc s = false :=
      Bool.eq_false_iff.mpr fun e => h ((closeStarts_iff hp).mp e)
    have hbrk : breakEpisode s.legNumber acc.interval { Causes.empty with precool := true } = brk := by
      rw [legNumber_eq_match]
      rfl
    have hexhausted (h : ¬ starts) (hl : s.ie.precoolCount + 1 = s.profile.precoolLimit) :
        s8 = offer (.episode brk) { precoolAdvanced acc s with cu := broken } := by
      rw [← hbrk]
      exact afterCustody_of_exhausted hp (hother h) hc hcauses hl
    refine ⟨fun h => ⟨hcu.trans ?startsCustody, (congrArg _ hie).trans ?startsCount⟩,
      fun h => (congrArg _ hie).trans ?count, fun h hl => hcu.trans ?withinCustody,
      fun h hl => hcu.trans ?brokenCustody, fun f l h hf hl hown hwarm hcold => ⟨hleg.trans ?addedLeg, ?addedStore⟩,
      fun h => hleg.trans (afterCustody_openLeg_of_not_starts hp (hother h) hc), fun h hl => ?withinStore,
      fun h hl => ⟨congrArg _ (hexhausted h hl), fun hw hs hq => ?brokenQueue⟩⟩
    case startsCustody => rw [afterCustody_of_starts hp (hstarts h)]
    case startsCount =>
      rw [afterCustody_of_starts hp (hstarts h)]
      simp [afterRecord_precoolCount]
    case count =>
      rw [afterCustody_of_not_starts hp (hother h) hc]
      split <;> simp
    case withinCustody =>
      rw [afterCustody_of_within hp (hother h) hc hl, precoolAdvanced_cu]
    case brokenCustody =>
      obtain ⟨_, hoffered, _⟩ := offer_frame (.episode brk) { precoolAdvanced acc s with cu := broken }
      exact (congrArg State.cu (hexhausted h hl)).trans hoffered
    case addedLeg =>
      rw [afterCustody_of_starts hp (hstarts h), episodeStage_openLeg, h.1, hf, hes, hl, Option.map_some]
      exact congrArg some (addToLeg_own_uncharged f hown hwarm hcold)
    case addedStore =>
      intro hx hg hv
      have hstage := episodeStage_own_uncharged acc.interval (s := afterRecord false acc s) h.1 hf
        (by rw [hes, hx]) (by rw [hes, hg]) (by rw [hes, hv])
      rw [hes, hl, Option.map_some, addToLeg_own_uncharged f hown hwarm hcold] at hstage
      exact (congrArg State.es (afterCustody_of_starts hp (hstarts h))).trans hstage
    case withinStore =>
      exact (congrArg State.es (afterCustody_of_within hp (hother h) hc hl)).trans (precoolAdvanced_es acc s)
    case brokenQueue =>
      exact (congrArg State.es (hexhausted h hl)).trans (offer_precoolAdvanced_of_held brk broken hw hs hq)
  case partialClose =>
    obtain ⟨hes, hnv⟩ := closeInterval_partial_store acc s
    have hcustody : afterCustody true acc s = afterRecord true acc s := afterCustody_precool_partial hp
    dsimp only
    rw [closeInterval_cu, closeInterval_ie_eq, hes, hnv, hcustody, afterRecord_precoolCount]
    simp

end Sys2Proof.Machine
end

section
/-! SUPPORT. The beacon request (R112), the mode selection (R49) and the schedule trigger (R23) in their plain cases,
and the statements O40 and O43 settled from them. -/

namespace Sys2Proof.Machine

/-! ## A beacon request -/

/-- A transmitter that is not IDLE chooses no frame (R115). -/
theorem serve_of_not_idle (busy : Bool) {s : State} (h : s.lc.tx ≠ .idle) : serve busy s = s := by
  simp [serve, h]

/-- A new frame in the slot that a backoff serves sets the attempt count to 0, and in any other leaves it (R112,
R114). -/
theorem restartAttempts_eq (slot : Slot) (s : State) :
    restartAttempts slot s = { s with lc := { s.lc with
      attempts := if s.lc.tx = .backoff ∧ s.lc.served = some slot then 0 else s.lc.attempts } } := by
  unfold restartAttempts
  split <;> rfl

/-- With the transceiver off a request is discarded at once (R107). -/
theorem requestBeacon_of_off (kind : BeaconKind) (busy : Bool) {s : State} (h : s.lc.enable = false) :
    requestBeacon kind busy s = s := by
  simp [requestBeacon, h]

section
variable (kind : BeaconKind) (busy : Bool) {s : State} (he : s.lc.enable = true)
include he

/-- A request made of a transmitter at work waits in the empty slot (R112). -/
theorem requestBeacon_of_room (ht : s.lc.tx ≠ .idle) (hb : s.lc.beaconSlot = none) :
    requestBeacon kind busy s = { s with lc := { s.lc with beaconSlot := some ⟨kind, s.now⟩ } } := by
  simp [requestBeacon, he, hb, serve_of_not_idle, ht]

/-- A request made of a transmitter at work replaces the one that waits, which is dropped, counted and noted; a
backoff for it begins its senses anew (R112, R119, R181). -/
theorem requestBeacon_of_full {old : BeaconRequest} (ht : s.lc.tx ≠ .idle) (hb : s.lc.beaconSlot = some old) :
    requestBeacon kind busy s =
      note .beaconDropped s.now [1, old.kind.code]
        { s with lc := { s.lc with
            beaconSlot := some ⟨kind, s.now⟩
            attempts := if s.lc.tx = .backoff ∧ s.lc.served = some .beacon then 0 else s.lc.attempts
            counters := { s.lc.counters with beaconsDropped := bump s.lc.counters.beaconsDropped } } } := by
  simp [requestBeacon, he, hb, restartAttempts_eq, serve, ht, dropped, counting, noteNow, note, State.now,
    DropCause.code]

/-- An IDLE transmitter with both slots empty and a free channel sends the requested beacon at once (R113, R115,
R118). -/
theorem requestBeacon_of_idle (ht : s.lc.tx = .idle) (hb : s.lc.beaconSlot = none) (hr : s.lc.replySlot = none) :
    requestBeacon kind false s =
      { s with
        lc := { s.lc with
          tx := .sending, served := some .beacon, attempts := 0, sequence := (s.lc.sequence + 1) % 256
          onAir := some ⟨.beacon, beaconFrame kind s⟩ }
        timers := { s.timers with tx := 80 } } := by
  simp [requestBeacon, he, ht, hb, hr, serve, chooseSlot, sense, startTransmission, beaconFrame, beaconFields]

end

theorem BeaconKind.code_eq (k : BeaconKind) : k.code = if k = .scheduled then 1 else 2 := by
  cases k <;> rfl

/-! ## Fast-until and the rise detector -/

/-- A mode selection writes the mode and the compare buffer and nothing else of the timebase (R49, R51). -/
theorem selectMode_tb (s : State) :
    (selectMode s).tb = { s.tb with mode := (selectMode s).tb.mode, buffer := (selectMode s).tb.buffer } := by
  unfold selectMode
  dsimp only
  split <;> rfl

/-- An extension writes the mode, the compare buffer and fast-until, and that only while the supply is GOOD (R53). -/
theorem extendFast_tb (s : State) :
    (extendFast s).tb = { s.tb with
      mode := (extendFast s).tb.mode
      buffer := (extendFast s).tb.buffer
      fastUntil := if s.sf.supply = .good then max s.tb.fastUntil (min 16777215 (s.tb.interval + 10))
        else s.tb.fastUntil } := by
  unfold extendFast
  split
  · exact selectMode_tb _
  · rfl

/-- A rise event in an interval without an alert: fast-until extended and the interval marked, before the request for
its alert beacon (R56, R57). -/
def riseMarked (n : Nat) (s : State) : State :=
  { extendFast s with tb := { (extendFast s).tb with alertInterval := some n } }

/-- The second rise event of an interval requests no beacon (R57). -/
theorem riseEvent_of_alerted (busy : Bool) {n : Nat} {s : State} (h : s.tb.alertInterval = some n) :
    riseEvent busy n s = extendFast s := by
  have ha : (extendFast s).tb.alertInterval = some n := by rw [extendFast_tb]; exact h
  simp [riseEvent, ha]

/-- The first rise event of an interval requests its alert beacon (R57). -/
theorem riseEvent_of_first (busy : Bool) {n : Nat} {s : State} (h : s.tb.alertInterval ≠ some n) :
    riseEvent busy n s = requestBeacon .alert busy (riseMarked n s) := by
  have ha : (extendFast s).tb.alertInterval ≠ some n := by rw [extendFast_tb]; exact h
  simp [riseEvent, ha, riseMarked]

/-- Either way the interval is marked, and the rest of the timebase is as the extension leaves it (R56, R57). -/
theorem riseEvent_tb (busy : Bool) (n : Nat) (s : State) :
    (riseEvent busy n s).tb = { (extendFast s).tb with alertInterval := some n } := by
  by_cases h : s.tb.alertInterval = some n
  · rw [riseEvent_of_alerted busy h, extendFast_tb, ← h]
  · simp [riseEvent_of_first busy h, riseMarked]

@[simp] theorem riseMarked_frame (n : Nat) (s : State) :
    (riseMarked n s).lc = s.lc ∧ (riseMarked n s).sf = s.sf ∧ (riseMarked n s).timers = s.timers := by
  simp [riseMarked]

@[simp] theorem riseMarked_now (n : Nat) (s : State) : (riseMarked n s).now = s.now := by
  simp only [State.now, riseMarked]
  rw [extendFast_tb]

/-- A beacon carries nothing of the timebase (R113). -/
@[simp] theorem beaconFrame_riseMarked (kind : BeaconKind) (n : Nat) (s : State) :
    beaconFrame kind (riseMarked n s) = beaconFrame kind s := by
  simp [beaconFrame, beaconFields, riseMarked]

section
variable {r : BurstResult} {temp : Int} (busy : Bool) {s : State} (hp : r.p = .temp temp)
include hp

theorem riseDetect_of_no_reference (hr : s.tb.riseRef = none) :
    riseDetect busy r s = { s with tb := { s.tb with riseRef := some ⟨r.start, temp⟩ } } := by
  simp [riseDetect, hp, Outcome.temp?, hr]

variable {ref : RisePoint} (hr : s.tb.riseRef = some ref)
include hr

/-- Within five seconds of the reference nothing changes (R55). -/
theorem riseDetect_of_early (hdt : elapsedMs ref.at_ r.start < 5000) : riseDetect busy r s = s := by
  simp [riseDetect, hp, Outcome.temp?, hr, hdt]

/-- From five seconds on the reference moves, after a rise event where the rate reaches the threshold (R55, R56). -/
theorem riseDetect_of_elapsed (hdt : 5000 ≤ elapsedMs ref.at_ r.start) :
    riseDetect busy r s =
      let moved (u : State) : State :=
        { u with tb := { u.tb with riseBuffer := some ref, riseRef := some ⟨r.start, temp⟩ } }
      if s.profile.riseThreshold ≤ warmingRate temp ref.temp (elapsedMs ref.at_ r.start) then
        moved (riseEvent busy r.start.interval s)
      else moved s := by
  simp only [riseDetect, hp, Outcome.temp?, hr, if_neg hdt.not_gt]
  split <;> rfl

end

/-- Settles O40: the detector's branches on the temperature, the reference, the elapsed time and the rate; a rise
event marks the interval and meets the transmitter as any beacon request does. -/
theorem riseDetected : Obligations.RiseDetected := by
  refine fun r busy s => ⟨fun hp => ?noTemp, fun temp hp hr => riseDetect_of_no_reference busy hp hr,
    fun temp ref hp hr => ?referenced⟩
  case noTemp => simp [riseDetect, hp]
  case referenced =>
    intro dt rate t request
    refine ⟨fun hdt => riseDetect_of_early busy hp hr hdt, fun hdt hrate => ?slow, fun hdt hrate => ?rise⟩
    case slow => exact (riseDetect_of_elapsed busy hp hr hdt).trans (if_neg hrate.not_ge)
    case rise =>
      have ht : t = { riseEvent busy r.start.interval s with
          tb := { (riseEvent busy r.start.interval s).tb with
            riseBuffer := some ref, riseRef := some ⟨r.start, temp⟩ } } :=
        (riseDetect_of_elapsed busy hp hr hdt).trans (if_pos hrate)
      have htb := riseEvent_tb busy r.start.interval s
      have hrequest : request = ⟨.alert, s.now⟩ := rfl
      rw [ht, hrequest]
      refine ⟨rfl, rfl, congrArg TimebaseBlock.alertInterval htb,
        (congrArg TimebaseBlock.fastUntil htb).trans (congrArg TimebaseBlock.fastUntil (extendFast_tb s)),
        fun halerted => ?again, fun hfirst => ?first⟩
      case again => simp [riseEvent_of_alerted busy halerted]
      case first =>
        rw [riseEvent_of_first busy hfirst]
        refine ⟨fun he => ?off, fun he htx hb => ?room, fun old he htx hb => ?full,
          fun he htx hb hrep hbusy => ?idle⟩
        case off => simp [requestBeacon_of_off, he]
        case room => simp [requestBeacon_of_room, he, htx, hb]
        case full =>
          have hb' : (riseMarked r.start.interval s).lc.beaconSlot = some old := by simpa using hb
          rw [requestBeacon_of_full .alert busy (by simpa using he) (by simpa using htx) hb']
          simp [noteNow, note_sf, BeaconKind.code_eq]
        case idle => simp [hbusy, requestBeacon_of_idle, he, htx, hb, hrep]

/-! ## The compare match -/

/-- A trigger pends behind a burst in flight (R23). -/
theorem trigger_of_burst (src : Source) {s : State} (hd : s.discardsTriggers = false) (hb : s.mc.burst ≠ .idle) :
    trigger src s = { s with mc := { s.mc with triggers := s.mc.triggers.union src.only } } := by
  simp [trigger, hd, startBurst, hb]

/-- A SCHEDULE trigger that finds the converter idle starts a burst of it alone (R23, R24). -/
theorem trigger_schedule_of_idle {s : State} (hd : s.discardsTriggers = false) (hb : s.mc.burst = .idle)
    (ht : s.mc.triggers = Sources.empty) :
    trigger .schedule s =
      { s with
        mc := { s.mc with burst := .settling ⟨s.now, Source.schedule.only, s.cu.custody.inService,
          (s.cu.commissioned.map (·.profile.airUse)).getD false⟩ }
        timers := { s.timers with burst := 8 } } := by
  simp [trigger, hd, startBurst, hb, ht, Sources.union, Sources.empty, Source.only, Sources.nonempty, State.now]

theorem Sources.union_schedule (a : Sources) : a.union Source.schedule.only = { a with schedule := true } := by
  simp [Sources.union, Source.only]

/-- A match at a phase that has reached the compare value triggers, in service and RUNNING, and advances the compare
value (R50). -/
theorem exec_compareMatch {s : State} {c : Nat} (hp : s.powered = true) (hc : s.tb.compare = some c)
    (hphase : c ≤ s.tb.phase) :
    exec .compareMatch s = .next (advanceCompare c
      (if s.cu.custody.inService = true ∧ s.sf.activity = .running then trigger .schedule s else s)) := by
  simp [exec, execCompareMatch, effect, hp, compareMatches, hc, reachPhase, hphase.not_gt]

/-- Settles O43: a match advances the compare value behind whatever the SCHEDULE trigger does: nothing, pend, or start
a burst. -/
theorem compareMatchAdvances : Obligations.CompareMatchAdvances := by
  intro s c hp hc hphase
  have hexec := exec_compareMatch hp hc hphase
  refine ⟨fun h => ?untriggered, fun hs ha hh hb => ?pends, fun hs ha hh hb ht => ?starts⟩
  case untriggered =>
    have hsame : (if s.cu.custody.inService = true ∧ s.sf.activity = .running then trigger .schedule s else s)
        = s := by
      rcases h with hs | ha | hh
      · simp [hs]
      · simp [ha]
      · simp [trigger, State.discardsTriggers, hh]
    rw [hexec, hsame]
    rfl
  case pends =>
    have hd : s.discardsTriggers = false := by simp [State.discardsTriggers, ha, hh]
    rw [hexec, if_pos ⟨hs, ha⟩, trigger_of_burst _ hd hb, Sources.union_schedule]
    rfl
  case starts =>
    have hd : s.discardsTriggers = false := by simp [State.discardsTriggers, ha, hh]
    rw [hexec, if_pos ⟨hs, ha⟩, trigger_schedule_of_idle hd hb ht, hs]
    rfl

end Sys2Proof.Machine
end

section
/-! SUPPORT. What a beacon does to the neighbour table (R90 to R95) and which entry R94 and R101 choose, case by case,
and the statements O33, O34 and O37 settled from it. -/

namespace Sys2Proof.Machine

/-! ## Searching and changing the table -/

@[simp] theorem mem_entries {p : Peer} {table : List (Option Peer)} : p ∈ entries table ↔ some p ∈ table := by
  simp [entries]

/-- The search for a serial is the library's search through the entries. -/
theorem findPeer_eq_find? (serial : Serial) (table : List (Option Peer)) :
    findPeer serial table = (entries table).find? (fun p => p.serial = serial) := by
  induction table with
  | nil => rfl
  | cons slot rest ih =>
    cases slot with
    | none => simpa [findPeer, entries] using ih
    | some p => by_cases h : p.serial = serial <;> simp [findPeer, entries, h, ih]

theorem findPeer_eq_none_iff {serial : Serial} {table : List (Option Peer)} :
    findPeer serial table = none ↔ ∀ p, some p ∈ table → p.serial ≠ serial := by
  simp [findPeer_eq_find?]

/-- In a sound table the search finds the one entry of its serial (R89). -/
theorem TableSound.findPeer_eq {own : Serial} {table : List (Option Peer)} (h : TableSound own table) {k : Nat}
    {p : Peer} (hk : table[k]? = some (some p)) : findPeer p.serial table = some p := by
  cases hf : findPeer p.serial table with
  | none => exact absurd rfl (findPeer_eq_none_iff.mp hf p (List.mem_of_getElem? hk))
  | some q =>
    rw [findPeer_eq_find?] at hf
    have hserial : q.serial = p.serial := by simpa using List.find?_some hf
    obtain ⟨i, hi⟩ := List.mem_iff_getElem?.mp (mem_entries.mp (List.mem_of_find?_eq_some hf))
    obtain rfl := h.distinct i k q p hi hk hserial
    simpa [hi] using hk

/-- In a sound table a replacement by serial changes the slot of that entry alone (R89, R92, R94). -/
theorem TableSound.replacePeer_eq_set {own : Serial} {table : List (Option Peer)} (h : TableSound own table) {k : Nat}
    {p : Peer} (hk : table[k]? = some (some p)) (new : Peer) :
    replacePeer p.serial new table = table.set k (some new) := by
  refine List.ext_getElem? fun i => ?_
  rw [replacePeer, List.getElem?_map, List.getElem?_set]
  by_cases hik : k = i
  · obtain ⟨hlt, _⟩ := List.getElem?_eq_some_iff.mp hk
    rw [← hik, if_pos rfl, if_pos hlt, hk]
    simp
  · rw [if_neg hik]
    match hi : table[i]? with
    | none => rfl
    | some none => rfl
    | some (some q) =>
      have hq : q.serial ≠ p.serial := fun e => hik (h.distinct i k q p hi hk e).symm
      simp [hq]

/-- The lowest-numbered empty slot is the one that a newcomer fills (R93). -/
theorem fillEmpty_eq_set (new : Peer) {table : List (Option Peer)} {k : Nat} (hk : table[k]? = some none)
    (hlow : ∀ j < k, table[j]? ≠ some none) : fillEmpty new table = some (table.set k (some new)) := by
  induction table generalizing k with
  | nil => simp at hk
  | cons slot rest ih =>
    cases k with
    | zero =>
      obtain rfl : slot = none := by simpa using hk
      rfl
    | succ k =>
      obtain ⟨p, rfl⟩ := Option.ne_none_iff_exists'.mp (by simpa using hlow 0 (by omega) : slot ≠ none)
      have hrest : fillEmpty new rest = some (rest.set k (some new)) :=
        ih (by simpa using hk) fun j hj => by simpa using hlow (j + 1) (by omega)
      simp [fillEmpty, hrest]

/-- A full table has no slot to fill (R94, R95). -/
theorem fillEmpty_of_full (new : Peer) {table : List (Option Peer)} (h : none ∉ table) :
    fillEmpty new table = none := by
  induction table with
  | nil => rfl
  | cons slot rest ih =>
    obtain ⟨hslot, hrest⟩ : none ≠ slot ∧ none ∉ rest := by simpa using h
    obtain ⟨p, rfl⟩ := Option.ne_none_iff_exists'.mp hslot.symm
    simp [fillEmpty, ih hrest]

/-! ## The entry that a rule chooses: the first of the least key -/

/-- R94's order as a key: the entry of the least key gives way. -/
def Peer.yieldKey (p : Peer) : ℕᵒᵈ ×ₗ ℕ ×ₗ ℕᵒᵈ :=
  toLex (OrderDual.toDual p.age, toLex (p.quality, OrderDual.toDual p.serial.toNat))

theorem Peer.yieldsBefore_iff (a b : Peer) : a.yieldsBefore b = true ↔ a.yieldKey < b.yieldKey := by
  simp [yieldsBefore, yieldKey, Prod.Lex.toLex_lt_toLex]

theorem Peer.yieldKey_le_iff (a b : Peer) :
    a.yieldKey ≤ b.yieldKey ↔ b.age < a.age ∨ (b.age = a.age ∧ (a.quality < b.quality
      ∨ (b.quality = a.quality ∧ b.serial.toNat ≤ a.serial.toNat))) := by
  simp [yieldKey, Prod.Lex.toLex_le_toLex, eq_comm]

/-- The key tells serials apart, so R94's order leaves no tie in a sound table. -/
theorem Peer.eq_of_yieldKey_eq {a b : Peer} (h : a.yieldKey = b.yieldKey) : a.age = b.age ∧ a.serial = b.serial := by
  simp only [yieldKey, EmbeddingLike.apply_eq_iff_eq, Prod.mk.injEq] at h
  obtain ⟨hage, _, hserial⟩ := h
  exact ⟨hage, BitVec.eq_of_toNat_eq hserial⟩

theorem yielding_eq_argmin (table : List (Option Peer)) :
    yielding table = (entries table).argmin Peer.yieldKey := by
  induction table with
  | nil => rfl
  | cons slot rest ih =>
    cases slot with
    | none => simpa [yielding, entries] using ih
    | some p =>
      have hentries : entries (some p :: rest) = p :: entries rest := by simp [entries]
      rw [hentries, List.argmin_cons, ← ih, yielding]
      cases yielding rest <;> simp [Peer.yieldsBefore_iff]

/-- R94 chooses among the entries of the table. -/
theorem mem_of_yielding {table : List (Option Peer)} {w : Peer} (h : yielding table = some w) : some w ∈ table := by
  rw [yielding_eq_argmin] at h
  exact mem_entries.mp (List.argmin_mem h)

/-- An entry of the least key is, by its age and its serial, the one that gives way (R94). -/
theorem yielding_of_least {table : List (Option Peer)} {v : Peer} (hv : some v ∈ table)
    (hleast : ∀ p, some p ∈ table → v.yieldKey ≤ p.yieldKey) :
    ∃ w, yielding table = some w ∧ w.age = v.age ∧ w.serial = v.serial := by
  have hmem : v ∈ entries table := mem_entries.mpr hv
  cases hy : yielding table with
  | none =>
    rw [yielding_eq_argmin, List.argmin_eq_none] at hy
    simp [hy] at hmem
  | some w =>
    have hw : w.yieldKey ≤ v.yieldKey := List.le_of_mem_argmin hmem (yielding_eq_argmin table ▸ hy)
    exact ⟨w, rfl, Peer.eq_of_yieldKey_eq (hw.antisymm (hleast w (mem_of_yielding hy)))⟩

/-- R101's order as a key: the candidate of the least key is the witness. -/
def Peer.witnessKey (p : Peer) : ℤᵒᵈ ×ₗ ℕ :=
  toLex (OrderDual.toDual ((p.figures.map (·.hi)).getD (-4000)), p.serial.toNat)

theorem Peer.witnessBefore_iff (a b : Peer) : a.witnessBefore b = true ↔ a.witnessKey < b.witnessKey := by
  simp [witnessBefore, witnessKey, Prod.Lex.toLex_lt_toLex]

theorem bestWitness_eq_argmin (candidates : List Peer) :
    bestWitness candidates = candidates.argmin Peer.witnessKey := by
  induction candidates with
  | nil => rfl
  | cons p rest ih =>
    rw [List.argmin_cons, ← ih, bestWitness]
    cases bestWitness rest <;> simp [Peer.witnessBefore_iff]

/-! ## The table after a beacon -/

section
variable {b : BeaconFrame} (quality : Byte) (at_ : Capture) {table : List (Option Peer)}

/-- A sender that the table holds has its entry updated in place (R92). -/
theorem tableAfter_of_held {own : Serial} (h : TableSound own table) {k : Nat} {p : Peer}
    (hk : table[k]? = some (some p)) (hp : p.serial = b.sender) :
    tableAfter b quality at_ table = some (table.set k (some (peerOf b quality at_ (some p.arrival)))) := by
  simp [tableAfter, ← hp, h.findPeer_eq hk, h.replacePeer_eq_set hk]

section
variable (hnew : ∀ p, some p ∈ table → p.serial ≠ b.sender)
include hnew

/-- A newcomer fills the lowest-numbered empty slot (R93). -/
theorem tableAfter_of_room {k : Nat} (hk : table[k]? = some none) (hlow : ∀ j < k, table[j]? ≠ some none) :
    tableAfter b quality at_ table = some (table.set k (some (peerOf b quality at_ none))) := by
  simp [tableAfter, findPeer_eq_none_iff.mpr hnew, fillEmpty_eq_set _ hk hlow]

/-- A newcomer to a full table replaces the aged entry of R94's least key (R94). -/
theorem tableAfter_of_aged {own : Serial} (h : TableSound own table) (hfull : none ∉ table) {k : Nat} {v : Peer}
    (hk : table[k]? = some (some v)) (hage : 0 < v.age) (hv : ∀ p, some p ∈ table → v.yieldKey ≤ p.yieldKey) :
    tableAfter b quality at_ table = some (table.set k (some (peerOf b quality at_ none))) := by
  obtain ⟨w, hw, hwage, hwserial⟩ := yielding_of_least (List.mem_of_getElem? hk) hv
  simp [tableAfter, findPeer_eq_none_iff.mpr hnew, fillEmpty_of_full _ hfull, hw, hwage, hage, hwserial,
    h.replacePeer_eq_set hk]

/-- A newcomer to a full table of entries heard in the current interval is refused (R95). -/
theorem tableAfter_of_fresh (hfull : none ∉ table) (hages : ∀ p, some p ∈ table → p.age = 0) :
    tableAfter b quality at_ table = none := by
  have hfind := findPeer_eq_none_iff.mpr hnew
  cases hy : yielding table with
  | none => simp [tableAfter, hfind, fillEmpty_of_full _ hfull, hy]
  | some w => simp [tableAfter, hfind, fillEmpty_of_full _ hfull, hy, hages w (mem_of_yielding hy)]

end
end

/-! ## A received beacon -/

/-- A heard alert acts on the state that the table's change leaves, where it matched before that change (R96). -/
def actOnAlert (b : BeaconFrame) (before after : State) : State :=
  if before.alertMatches b then extendFast (trigger .alert after) else after

theorem takeBeacon_of_foreign {b : BeaconFrame} (quality : Byte) {s : State} (h : b.sender ≠ s.info.serial) :
    takeBeacon b quality s = actOnAlert b s (enterBeacon b quality s) :=
  if_neg h

theorem enterBeacon_of_entered {b : BeaconFrame} {quality : Byte} {s : State} {t : List (Option Peer)}
    (h : tableAfter b quality s.now s.nt = some t) : enterBeacon b quality s = { s with nt := t } := by
  simp [enterBeacon, h]

theorem enterBeacon_of_refused {b : BeaconFrame} {quality : Byte} {s : State}
    (h : tableAfter b quality s.now s.nt = none) :
    enterBeacon b quality s = noteNow .peerOverflow (serialBytes b.sender ++ [quality]) s := by
  simp [enterBeacon, h]

section
variable {b : BeaconFrame} {quality : Byte} {s : State} (h : s.Receives) (ht : s.cu.custody.takesBeacons = true)
  (hforeign : b.sender ≠ s.info.serial)
include h ht hforeign

/-- A received beacon whose sender gets or keeps an entry changes the table, and nothing else but for an alert that
acts (R92 to R94, R96). -/
theorem exec_beacon_of_entered {t : List (Option Peer)} (htable : tableAfter b quality s.now s.nt = some t) :
    exec (.beacon b quality) s = .next (actOnAlert b s { s.beaconTaken with nt := t }) := by
  rw [exec_beacon h ht, takeBeacon_of_foreign (s := s.beaconTaken) quality hforeign,
    enterBeacon_of_entered (s := s.beaconTaken) htable]
  rfl

/-- A received beacon whose sender is refused is noted, and its alert still acts (R95, R96). -/
theorem exec_beacon_of_refused (htable : tableAfter b quality s.now s.nt = none) :
    exec (.beacon b quality) s =
      .next (actOnAlert b s (noteNow .peerOverflow (serialBytes b.sender ++ [quality]) s.beaconTaken)) := by
  rw [exec_beacon h ht, takeBeacon_of_foreign (s := s.beaconTaken) quality hforeign,
    enterBeacon_of_refused (s := s.beaconTaken) htable]
  rfl

end

/-! ## The fields of an entry -/

/-- The signed reading of a two-byte figure is the library's. -/
theorem signed16_toNat (x : BitVec 16) : signed16 x.toNat = x.toInt := by
  simp only [signed16, BitVec.toInt_eq_toNat_cond]
  split <;> split <;> omega

/-- The four known coverage codes, and NONE for every other (R90). -/
theorem coverageOfCode_eq_match (c : Nat) :
    coverageOfCode c = match c with
      | 1 => .own
      | 2 => .air
      | 3 => .witness
      | 4 => .gap
      | _ => .none := by
  match c with
  | 0 | 1 | 2 | 3 | 4 => rfl
  | n + 5 => simp [coverageOfCode]

/-- R90's two ways to say which coverages come with figures. -/
theorem Coverage.measured_iff (c : Coverage) :
    (c = .own ∨ c = .air ∨ c = .witness) ↔ ¬ (c = .gap ∨ c = .none) := by
  cases c <;> decide

/-- Settles O33: the table's two ways to enter a beacon (R92, R93), and the entry's fields (R90). -/
theorem beaconEntered : Obligations.BeaconEntered := by
  intro b quality s k hrec htakes clamp coverage entry entered acted
  have hcoverage : coverage = coverageOfCode b.coverage.toNat := (coverageOfCode_eq_match _).symm
  have hentry (previous : Option Capture) : peerOf b quality s.now previous = entry previous := by
    simp only [peerOf, ← hcoverage, Coverage.measured_iff, signed16_toNat, ite_not]
    rfl
  refine ⟨fun p hsound hk hp => ?held, fun hforeign hnew hk hlow => ?newcomer⟩
  case held =>
    have hforeign : b.sender ≠ s.info.serial := hp ▸ hsound.foreign p (List.mem_of_getElem? hk)
    rw [exec_beacon_of_entered hrec htakes hforeign (tableAfter_of_held quality s.now hsound hk hp), hentry]
    rfl
  case newcomer =>
    rw [exec_beacon_of_entered hrec htakes hforeign (tableAfter_of_room quality s.now hnew hk hlow), hentry]
    rfl

/-- Settles O34: the entry described is the one of R94's least key; with every age 0 there is none to give way. -/
theorem beaconReplacesOldestOrIsRefused : Obligations.BeaconReplacesOldestOrIsRefused := by
  intro b quality s hrec htakes hsound hforeign hnew hfull acted
  refine ⟨fun k v hk hage hv => ?replaced, fun hages => ?refused⟩
  case replaced =>
    have hleast (p : Peer) (hp : some p ∈ s.nt) : v.yieldKey ≤ p.yieldKey :=
      (Peer.yieldKey_le_iff v p).mpr (hv p hp)
    exact exec_beacon_of_entered hrec htakes hforeign
      (tableAfter_of_aged quality s.now hnew hsound hfull hk hage hleast)
  case refused =>
    exact exec_beacon_of_refused hrec htakes hforeign (tableAfter_of_fresh quality s.now hnew hfull hages)

/-! ## The witness -/

theorem Peer.isCandidate_iff (p : Peer) (n compartment floor : Nat) :
    p.isCandidate n compartment floor = true ↔
      p.age = 0 ∧ p.arrival.interval = n ∧ p.compartment = compartment ∧ p.coverage = .own ∧ p.raised = false
        ∧ 2 ≤ p.verdict.toNat ∧ p.verdict.toNat ≤ 5 ∧ floor ≤ p.quality := by
  simp [isCandidate, heardIn, and_assoc]

/-- Entries in R101's order: the greater Tmax first, then the lower serial. -/
theorem Peer.witnessKey_le_iff (a b : Peer) :
    a.witnessKey ≤ b.witnessKey ↔
      (b.figures.map (·.hi)).getD (-4000) < (a.figures.map (·.hi)).getD (-4000)
        ∨ ((b.figures.map (·.hi)).getD (-4000) = (a.figures.map (·.hi)).getD (-4000)
          ∧ a.serial.toNat ≤ b.serial.toNat) := by
  simp [witnessKey, Prod.Lex.toLex_le_toLex, eq_comm]

/-- The entries among which R101 chooses. -/
def candidatesFor (n : Nat) (l : Leg) (s : State) : List Peer :=
  (entries s.nt).filter fun p => p.isCandidate n l.compartment s.profile.qualityFloor

theorem mem_candidatesFor {n : Nat} {l : Leg} {s : State} {p : Peer} :
    p ∈ candidatesFor n l s ↔
      some p ∈ s.nt ∧ p.age = 0 ∧ p.arrival.interval = n ∧ p.compartment = l.compartment ∧ p.coverage = .own
        ∧ p.raised = false ∧ 2 ≤ p.verdict.toNat ∧ p.verdict.toNat ≤ 5 ∧ s.profile.qualityFloor ≤ p.quality := by
  rw [candidatesFor, List.mem_filter, mem_entries, Peer.isCandidate_iff]

theorem witnessFor_eq_argmin (n : Nat) {s : State} {l : Leg} (h : s.es.openLeg = some l) :
    witnessFor n s = (candidatesFor n l s).argmin Peer.witnessKey := by
  simp [witnessFor, h, bestWitness_eq_argmin, candidatesFor]

/-- Settles O37: the witness is the first candidate of R101's least key. -/
theorem witnessIsWarmestCandidate : Obligations.WitnessIsWarmestCandidate := by
  intro n s l hleg candidate tmax
  have hcandidate (p : Peer) : candidate p ↔ p ∈ candidatesFor n l s := mem_candidatesFor.symm
  rw [witnessFor_eq_argmin n hleg]
  refine ⟨?noneOffered, fun w hw => ⟨(hcandidate w).mpr (List.argmin_mem hw), fun p hp => ?warmest⟩⟩
  case noneOffered => simp only [List.argmin_eq_none, List.eq_nil_iff_forall_not_mem, hcandidate]
  case warmest =>
    exact (Peer.witnessKey_le_iff w p).mp (List.le_of_mem_argmin ((hcandidate p).mp hp) hw)

end Sys2Proof.Machine
end

section
/-! SUPPORT. The expected-leg rule of HANDOVER (R148, R149) row by row, and what the accepted handover (R137) leaves open;
with the settled statement beside them. -/

namespace Sys2Proof.Machine

/-! ## The expected-leg rule -/

section
variable {l : Leg} {compartment carrier expected : Nat} (reader : Serial) {s : State}

theorem judgeHandover_of_repeated (he : expected = l.number) (hcomp : compartment = l.compartment)
    (hcarr : carrier = l.carrier) : judgeHandover l compartment carrier expected reader s = (.ok, s) := by
  simp [judgeHandover, he, hcomp, hcarr]

theorem judgeHandover_of_other_codes (he : expected = l.number)
    (hcodes : compartment ≠ l.compartment ∨ carrier ≠ l.carrier) :
    judgeHandover l compartment carrier expected reader s = (.legMismatch, s) := by
  have hdiffer : ¬ (compartment = l.compartment ∧ carrier = l.carrier) := not_and_or.mpr hcodes
  simp [judgeHandover, he, hdiffer]

theorem judgeHandover_of_next (he : expected = l.number + 1) (hroom : s.es.legCount < 16) :
    judgeHandover l compartment carrier expected reader s =
      (.ok, openNextLeg l compartment carrier reader s) := by
  simp [judgeHandover, he, hroom]

theorem judgeHandover_of_full (he : expected = l.number + 1) (hfull : 16 ≤ s.es.legCount) :
    judgeHandover l compartment carrier expected reader s = (.legsFull, s) := by
  simp [judgeHandover, he, hfull]

theorem judgeHandover_of_unexpected (hopen : expected ≠ l.number) (hnext : expected ≠ l.number + 1) :
    judgeHandover l compartment carrier expected reader s = (.legMismatch, s) := by
  simp [judgeHandover, hopen, hnext]

end

/-- The accepted handover leaves the next leg open and counted, whatever becomes of the closed leg's record (R137). -/
@[simp] theorem openNextLeg_es (l : Leg) (compartment carrier : Nat) (reader : Serial) (s : State) :
    (openNextLeg l compartment carrier reader s).es.openLeg =
        some (nextLeg l compartment carrier s.tb.interval reader) ∧
      (openNextLeg l compartment carrier reader s).es.legCount = s.es.legCount + 1 := by
  simp [openNextLeg]

/-! ## The command -/

section
variable (who : Asker) {payload : List Byte} (busy : Bool) {s : State}

theorem takeHandover_of_zero_code (hs : s.cu.custody.inService = true) (hzero : fieldAt payload 0 2 = 0) :
    takeHandover who payload busy s = answer who .badProfile [] busy s := by
  simp [takeHandover, hs, hzero]

theorem takeHandover_of_closed (payload : List Byte) (hc : s.cu.custody = .closed) :
    takeHandover who payload busy s = answer who .closed [] busy s := by
  simp [takeHandover, hc, Custody.inService]

theorem takeHandover_of_blank (payload : List Byte) (hc : s.cu.custody = .blank) :
    takeHandover who payload busy s = answer who .notCommissioned [] busy s := by
  simp [takeHandover, hc, Custody.inService]

/-- A row of the expected-leg rule answers with the leg that is open after it (R149). -/
theorem takeHandover_of_judged {l m : Leg} {status : Status} {t : State} (hs : s.cu.custody.inService = true)
    (hl : s.es.openLeg = some l) (hcode : fieldAt payload 0 2 ≠ 0)
    (hjudged : judgeHandover l (fieldAt payload 0 2) (fieldAt payload 2 2) (fieldAt payload 4 1) who.reader s =
      (status, t)) (hm : t.es.openLeg = some m) :
    takeHandover who payload busy s = answer who status (legAnswer m) busy t := by
  simp [takeHandover, hs, hl, hcode, hjudged, hm]

end

/-- A HANDOVER that passes R110 is judged by the rule on the part with both link counters counted. -/
theorem exec_handover {f : CommandFrame} (busy : Bool) {s : State} (ht : s.Takes .handover f) :
    exec (.handover f busy) s = .next (takeHandover (askerOf f) f.payload busy s.taken) :=
  exec_taken ht _ busy rfl

/-- Settles O24: past the refusals of R148 and R19, the next leg is the one row of the rule with an effect beside the
reply. -/
theorem handoverJudged : Obligations.HandoverJudged := by
  refine ⟨fun f busy s l ht hs hl hcode he hroom => ?next, fun f busy s ht =>
    ⟨fun l hs hl => ?rule, fun hs hzero => ?zeroCode, fun hc => ?closed, fun hc => ?blank⟩⟩
  case next =>
    intro new
    have hopen := openNextLeg_es l (fieldAt f.payload 0 2) (fieldAt f.payload 2 2) f.reader s.taken
    have hexec := takeHandover_of_judged (s := s.taken) (askerOf f) busy hs hl hcode
      (judgeHandover_of_next _ he hroom) hopen.1
    refine ⟨_, _, (exec_handover busy ht).trans (congrArg _ hexec), rfl, rfl, ?_⟩
    simp [answer, askerOf, new, nextLeg]
  case rule =>
    intro reply hcode
    have hreply {status : Status} (hjudged : judgeHandover l (fieldAt f.payload 0 2) (fieldAt f.payload 2 2)
        (fieldAt f.payload 4 1) f.reader s.taken = (status, s.taken)) :
        exec (.handover f busy) s = .next (reply status) :=
      (exec_handover busy ht).trans
        (congrArg _ (takeHandover_of_judged (s := s.taken) (askerOf f) busy hs hl hcode hjudged hl))
    exact ⟨fun he hcomp hcarr => hreply (judgeHandover_of_repeated _ he hcomp hcarr),
      fun he hcodes => hreply (judgeHandover_of_other_codes _ he hcodes),
      fun he hfull => hreply (judgeHandover_of_full _ he hfull),
      fun hopen hnext => hreply (judgeHandover_of_unexpected _ hopen hnext)⟩
  case zeroCode => exact (exec_handover busy ht).trans (congrArg _ (takeHandover_of_zero_code _ _ hs hzero))
  case closed => exact (exec_handover busy ht).trans (congrArg _ (takeHandover_of_closed _ _ _ hc))
  case blank => exact (exec_handover busy ht).trans (congrArg _ (takeHandover_of_blank _ _ _ hc))

end Sys2Proof.Machine
end

section
/-! SUPPORT. What one note does to the fault status with its context empty and full (R180); with the settled statement
beside them. -/

namespace Sys2Proof.Machine

/-- A note is made on the fault status alone (R180). -/
theorem note_eq_noted (code : FaultCode) (at_ : Capture) (datum : List Byte) (s : State) :
    note code at_ datum s = { s with sf := s.sf.noted code at_ datum } := rfl

section
variable (code : FaultCode) (at_ : Capture) (datum : List Byte) {sf : SupplyBlock}

/-- The first unread note fills the context and leaves the multiple flag (R180). -/
theorem SupplyBlock.noted_of_empty (h : sf.context = none) :
    sf.noted code at_ datum =
      { sf with
        sticky := sf.sticky ||| code.bit
        unread := min 255 (sf.unread + 1)
        context := some ⟨code, at_.interval, at_.phase, padDatum datum⟩ } := by
  simp [SupplyBlock.noted, satAdd, h]

/-- A later note leaves the context and sets the multiple flag (R180). -/
theorem SupplyBlock.noted_of_full {c : FaultNote} (h : sf.context = some c) :
    sf.noted code at_ datum =
      { sf with
        sticky := sf.sticky ||| code.bit
        unread := min 255 (sf.unread + 1)
        multiple := true } := by
  simp [SupplyBlock.noted, satAdd, h]

end

/-- Settles O17: the statement's row for an empty context and its row for a full one are the two lemmas above. -/
theorem notingAFault : Obligations.NotingAFault := by
  intro code at_ datum s
  rw [note_eq_noted]
  cases h : s.sf.context with
  | none =>
    rw [SupplyBlock.noted_of_empty code at_ datum h]
    simp [FaultCode.bit, padDatum]
  | some c =>
    rw [SupplyBlock.noted_of_full code at_ datum h]
    simp [FaultCode.bit, h]

end Sys2Proof.Machine
end

section
/-! SUPPORT. A rule for the commands that keep the power as it is, and what every command does to the neighbour table (R89 to
R97) and to the fault status (R179, R180); with the settled statements beside them. -/

namespace Sys2Proof.Machine

/-! ## The commands but a power-on and a loss of retention memory -/

/-- A property of the state after a frame that a powered part is given follows from the examination of a command, a beacon,
a frame discarded and a frame whose CRC differs (R108 to R110). -/
theorem receiveFrame_ind (P : State → Prop) (frame : List Byte) (q : Byte) (busy : Bool) {s : State} (same : P s)
    (command : ∀ kind f busy, P (receiveCommand kind f busy s))
    (good : s.hears = true → P (discardFrame (countGood s)))
    (bad : ∀ q, s.hears = true → P (noteNow .crcError [q] (counting (fun c => { c with crcErrors := bump c.crcErrors }) s)))
    (beacon : ∀ b q, s.hears = true → P (dispatchBeacon b q (countGood s))) :
    P (delivered (receiveFrame frame q busy) s) := by
  unfold delivered
  split
  case isFalse => exact same
  case isTrue hh =>
    unfold receiveFrame dispatchFrame
    split
    case isFalse => exact bad q hh
    case isTrue =>
      split
      · split
        · exact beacon _ _ hh
        · exact good hh
      · split
        · rename_i kind _
          split
          · exact good hh
          · simpa [receiveCommand, delivered, hh] using command kind (commandOf frame) busy
        · exact good hh

/-- A property of the state after a command that is no loss of retention memory and no power-on follows from the
operations that the other commands are made of. -/
theorem exec_ind_powered (P : State → Prop) {s : State} (same : P s)
    (command : ∀ kind f busy, P (receiveCommand kind f busy s))
    (good : s.hears = true → P (discardFrame (countGood s)))
    (bad : ∀ q, s.hears = true → P (noteNow .crcError [q] (counting (fun c => { c with crcErrors := bump c.crcErrors }) s)))
    (beacon : ∀ b q, s.hears = true → P (dispatchBeacon b q (countGood s)))
    (settling : P (settlingEnds s))
    (conversion : ∀ code busy, P (conversionEnds code busy s))
    (atBoundary : P (boundary s))
    (atCompare : P (compareMatches s))
    (due : ∀ busy, P (beaconDue busy s))
    (backoff : ∀ busy next, P (backoffEnds busy next s))
    (complete : ∀ busy, P (transmitCompletes busy s))
    (timeout : ∀ busy, P (transmitTimesOut busy s))
    (wait : ∀ busy, P (waitEnds busy s))
    (write : ∀ v b busy, P (writeEnds v b busy s))
    (handOver : P (handOverClosing s))
    (admitted : P (admitCritical s))
    (low : P (supplyFallsLow s))
    (rises : P (supplyRisesGood s))
    (critical : ∀ busy, P (supplyFallsCritical busy s))
    (recovers : P (supplyRecovers s))
    (ready : P (halts s))
    {i : Instr} (erased : ∀ busy, i = .eraseComplete busy → P (eraseCompletes busy s))
    (hl : i ≠ .retentionLoss) (hp : ∀ mv, i ≠ .powerOn mv) : P (afterExec i s) := by
  have key : ∀ f : State → State, P (f s) → P (if s.powered then f s else s) := by
    intro f hf; split
    · exact hf
    · exact same
  cases i with
  | frameReceived frame q busy => exact key _ (receiveFrame_ind P frame q busy same command good bad beacon)
  | beacon b q =>
    refine key (delivered (fun s => dispatchBeacon b q (countGood s))) ?_
    unfold delivered
    split
    · exact beacon _ _ ‹_›
    · exact same
  | powerOn mv => exact absurd rfl (hp mv)
  | retentionLoss => exact absurd rfl hl
  | settlingEnd => exact key _ settling
  | conversionEnd code busy => exact key _ (conversion code busy)
  | intervalBoundary => exact key _ atBoundary
  | compareMatch => exact key _ atCompare
  | beaconDue busy => exact key _ (due busy)
  | backoffEnd a b => exact key _ (backoff a b)
  | transmitComplete b => exact key _ (complete b)
  | transmitTimeout b => exact key _ (timeout b)
  | waitEnd b => exact key _ (wait b)
  | storeWriteEnd v b busy => exact key _ (write v b busy)
  | closingRecordHandover => exact key _ handOver
  | supplyLow => exact key _ low
  | supplyGood => exact key _ rises
  | supplyCritical b => exact key _ (critical b)
  | criticalCheckpointOffer => exact key _ admitted
  | haltReady => exact key _ ready
  | supplyRecover => exact key _ recovers
  | eraseComplete b => exact key _ (erased b rfl)
  | _ => exact key _ (command _ _ _)

/-- The state that a command answers is the one after it. -/
theorem eq_afterExec {i : Instr} {s t : State} (h : exec i s = .next t) : t = afterExec i s := by
  rw [exec_eq_next] at h
  injection h with h
  exact h.symm

/-! ## The neighbour table -/

theorem emptyTable_sound (serial : Serial) : TableSound serial emptyTable := by
  have hnone : ∀ p : Peer, some p ∉ emptyTable := fun p hp => by simp [emptyTable] at hp
  refine ⟨by simp [emptyTable], fun i j p q hi _ _ => ?_, fun p hp => absurd hp (hnone p), fun p hp => absurd hp (hnone p),
    fun p hp => absurd hp (hnone p)⟩
  exact absurd (List.mem_of_getElem? hi) (hnone p)

/-- An entry that outlives its slot's ageing is the entry before with an age of at most 5 (R97). -/
theorem ageSlot_eq_some {n : Nat} {slot : Option Peer} {p : Peer} (h : ageSlot n slot = some p) :
    ∃ q, slot = some q ∧ p.serial = q.serial ∧ p.figures = q.figures ∧ p.coverage = q.coverage ∧ (q.age ≤ 5 → p.age ≤ 5) := by
  unfold ageSlot at h
  split at h
  · simp at h
  · rename_i q
    split at h
    · injection h with h; subst h; exact ⟨q, rfl, rfl, rfl, rfl, id⟩
    · split at h
      · simp at h
      · injection h with h; subst h
        exact ⟨q, rfl, rfl, rfl, rfl, fun _ => by dsimp only; omega⟩

theorem TableSound.aged {serial : Serial} {table : List (Option Peer)} (h : TableSound serial table) (n : Nat) :
    TableSound serial (ageTable n table) := by
  have back : ∀ {i : Nat} {p : Peer}, (ageTable n table)[i]? = some (some p) →
      ∃ q, table[i]? = some (some q) ∧ p.serial = q.serial ∧ p.figures = q.figures ∧ p.coverage = q.coverage
        ∧ (q.age ≤ 5 → p.age ≤ 5) := by
    intro i p hi
    simp only [ageTable, List.getElem?_map, Option.map_eq_some_iff] at hi
    obtain ⟨slot, hslot, hp⟩ := hi
    obtain ⟨q, rfl, hq⟩ := ageSlot_eq_some hp
    exact ⟨q, hslot, hq⟩
  have old : ∀ {p : Peer}, some p ∈ ageTable n table →
      ∃ q, some q ∈ table ∧ p.serial = q.serial ∧ p.figures = q.figures ∧ p.coverage = q.coverage
        ∧ (q.age ≤ 5 → p.age ≤ 5) := by
    intro p hp
    obtain ⟨i, hi⟩ := List.mem_iff_getElem?.mp hp
    obtain ⟨q, hq, rest⟩ := back hi
    exact ⟨q, List.mem_of_getElem? hq, rest⟩
  refine ⟨by simp [ageTable, h.slots], ?_, ?_, ?_, ?_⟩
  · intro i j p q hi hj hpq
    obtain ⟨p', hp', sp, -⟩ := back hi
    obtain ⟨q', hq', sq, -⟩ := back hj
    exact h.distinct i j p' q' hp' hq' (by rw [← sp, ← sq, hpq])
  · intro p hp
    obtain ⟨q, hq, hs, -⟩ := old hp
    rw [hs]; exact h.foreign q hq
  · intro p hp
    obtain ⟨q, hq, -, -, -, ha⟩ := old hp
    exact ha (h.ages q hq)
  · intro p hp
    obtain ⟨q, hq, -, hf, hc, -⟩ := old hp
    rw [hf, hc]; exact h.measured q hq

/-- A slot written with a foreign entry that no other slot has the serial of keeps the table sound. -/
theorem TableSound.set {serial : Serial} {table : List (Option Peer)} (h : TableSound serial table) {k : Nat} {new : Peer}
    (hnew : ∀ j q, j ≠ k → table[j]? = some (some q) → q.serial ≠ new.serial) (hforeign : new.serial ≠ serial)
    (hage : new.age ≤ 5)
    (hmeasured : new.figures.isSome = true ↔ new.coverage = .own ∨ new.coverage = .air ∨ new.coverage = .witness) :
    TableSound serial (table.set k (some new)) := by
  have slot : ∀ {i p}, (table.set k (some new))[i]? = some (some p) →
      (i = k ∧ p = new) ∨ (i ≠ k ∧ table[i]? = some (some p)) := by
    intro i p hi
    rw [List.getElem?_set] at hi
    split at hi
    · split at hi
      · simp at hi; exact .inl ⟨by omega, hi.symm⟩
      · simp at hi
    · exact .inr ⟨by omega, hi⟩
  have entry : ∀ {p}, some p ∈ table.set k (some new) → p = new ∨ some p ∈ table := by
    intro p hp
    rcases List.mem_or_eq_of_mem_set hp with hp | hp
    · exact .inr hp
    · injection hp with hp; exact .inl hp
  refine ⟨by simp [h.slots], ?_, ?_, ?_, ?_⟩
  · intro i j p q hi hj hpq
    rcases slot hi with ⟨hik, hp⟩ | ⟨hik, hi⟩ <;> rcases slot hj with ⟨hjk, hq⟩ | ⟨hjk, hj⟩
    · rw [hik, hjk]
    · exact absurd (hp ▸ hpq.symm) (hnew j q hjk hj)
    · exact absurd (hq ▸ hpq) (hnew i p hik hi)
    · exact h.distinct i j p q hi hj hpq
  all_goals
    intro p hp
    rcases entry hp with rfl | hp
  · exact hforeign
  · exact h.foreign p hp
  · exact hage
  · exact h.ages p hp
  · exact hmeasured
  · exact h.measured p hp

theorem peerOf_measured (b : BeaconFrame) (quality : Byte) (at_ : Capture) (previous : Option Capture) :
    (peerOf b quality at_ previous).figures.isSome = true ↔
      (peerOf b quality at_ previous).coverage = .own ∨ (peerOf b quality at_ previous).coverage = .air
        ∨ (peerOf b quality at_ previous).coverage = .witness := by
  simp only [peerOf]
  split <;> simp_all

/-- The entry that a beacon gives its sender may take any slot, where no other slot holds the sender. -/
theorem TableSound.entered {serial : Serial} {table : List (Option Peer)} (h : TableSound serial table) {b : BeaconFrame}
    (hb : b.sender ≠ serial) (quality : Byte) (at_ : Capture) (previous : Option Capture) {k : Nat}
    (hnew : ∀ j q, j ≠ k → table[j]? = some (some q) → q.serial ≠ b.sender) :
    TableSound serial (table.set k (some (peerOf b quality at_ previous))) :=
  h.set hnew hb (Nat.zero_le 5) (peerOf_measured ..)

theorem exists_lowest_empty {table : List (Option Peer)} (h : none ∈ table) :
    ∃ k : Nat, table[k]? = some none ∧ ∀ j < k, table[j]? ≠ some none := by
  obtain ⟨i, hi⟩ := List.mem_iff_getElem?.mp h
  have hex : ∃ k : Nat, table[k]? = some none := ⟨i, hi⟩
  classical
  exact ⟨Nat.find hex, Nat.find_spec hex, fun j hj => Nat.find_min hex hj⟩

/-- Entering a foreign beacon keeps the table sound (R90 to R95). -/
theorem TableSound.tableAfter {serial : Serial} {table t : List (Option Peer)} (h : TableSound serial table)
    {b : BeaconFrame} (hb : b.sender ≠ serial) {quality : Byte} {at_ : Capture}
    (ht : tableAfter b quality at_ table = some t) : TableSound serial t := by
  unfold Machine.tableAfter at ht
  cases hf : findPeer b.sender table with
  | some p =>
    simp only [hf, Option.some.injEq] at ht
    rw [findPeer_eq_find?] at hf
    have hs : p.serial = b.sender := by simpa using List.find?_some hf
    obtain ⟨k, hk⟩ := List.mem_iff_getElem?.mp (mem_entries.mp (List.mem_of_find?_eq_some hf))
    rw [← ht, ← hs, h.replacePeer_eq_set hk]
    exact h.entered hb _ _ _ fun j q hj hq e => hj (h.distinct j k q p hq hk (e.trans hs.symm))
  | none =>
    simp only [hf] at ht
    have hnew : ∀ (j : Nat) (q : Peer), table[j]? = some (some q) → q.serial ≠ b.sender :=
      fun j q hq => findPeer_eq_none_iff.mp hf q (List.mem_of_getElem? hq)
    by_cases hroom : none ∈ table
    · obtain ⟨k, hk, hlow⟩ := exists_lowest_empty hroom
      simp only [fillEmpty_eq_set _ hk hlow, Option.some.injEq] at ht
      exact ht ▸ h.entered hb _ _ _ fun j q _ => hnew j q
    · simp only [fillEmpty_of_full _ hroom] at ht
      split at ht
      · rename_i v hv
        split at ht
        · obtain ⟨k, hk⟩ := List.mem_iff_getElem?.mp (mem_of_yielding hv)
          rw [h.replacePeer_eq_set hk] at ht
          injection ht with ht
          exact ht ▸ h.entered hb _ _ _ fun j q _ => hnew j q
        · simp at ht
      · simp at ht

/-- The neighbour table is sound for the part's own serial. -/
def State.TableKept (s : State) : Prop := TableSound s.info.serial s.nt

theorem takeBeacon_table (b : BeaconFrame) (quality : Byte) {s : State} (h : s.TableKept) :
    (takeBeacon b quality s).TableKept := by
  have key : TableSound s.info.serial (takeBeacon b quality s).nt := by
    unfold takeBeacon
    split
    · simpa [State.TableKept] using h
    · rename_i hb
      have entered : TableSound s.info.serial (enterBeacon b quality s).nt := by
        unfold enterBeacon
        split
        · exact h.tableAfter hb ‹_›
        · simpa [State.TableKept] using h
      dsimp only
      split
      · simpa using entered
      · exact entered
  simpa [State.TableKept] using key

theorem closeInterval_table (p : Bool) (acc : Accumulator) {s : State} (h : s.TableKept) :
    (closeInterval p acc s).TableKept := by
  simpa [State.TableKept, closeInterval_nt] using h.aged acc.interval

theorem runDeferred_table {s : State} (h : s.TableKept) : (runDeferred s).TableKept := by
  unfold runDeferred
  split
  · exact closeInterval_table false _ h
  · exact h

theorem boundaryToExposure_table {s : State} (h : s.TableKept) : (boundaryToExposure s).TableKept := by
  unfold boundaryToExposure
  split
  · dsimp only
    split
    · split
      · exact runDeferred_table h
      · exact runDeferred_table (s := { runDeferred s with ie := _ }) (runDeferred_table h)
    · exact runDeferred_table h
  · exact h

theorem boundary_table {s : State} (h : s.TableKept) : (boundary s).TableKept := by
  have hs : (boundarySteps s).TableKept := by simpa [State.TableKept] using h
  unfold boundary
  split
  · exact hs
  · exact boundaryToExposure_table hs

theorem deliverToExposure_table (r : BurstResult) {s : State} (h : s.TableKept) :
    (deliverToExposure r s).TableKept := by
  unfold deliverToExposure
  dsimp only
  split
  · split
    · exact runDeferred_table (s := { s with ie := _ }) h
    · exact h
  · exact h

theorem deliver_table (busy : Bool) (r : BurstResult) {s : State} (h : s.TableKept) : (deliver busy r s).TableKept := by
  have hs : (if r.credit then riseDetect busy r (deliverToExposure r s) else s).TableKept := by
    split
    · simpa [State.TableKept] using deliverToExposure_table r h
    · exact h
  unfold deliver
  dsimp only
  split
  · simpa [State.TableKept] using hs
  · exact hs

theorem conversionEnds_table (code : Code) (busy : Bool) {s : State} (h : s.TableKept) :
    (conversionEnds code busy s).TableKept := by
  unfold conversionEnds
  split
  · dsimp only
    split
    · exact h
    · unfold completeBurst
      simp only [State.TableKept, startBurst_frame]
      exact deliver_table busy _ (by simpa [State.TableKept] using h)
  all_goals exact h

theorem acceptClose_nt (who : Asker) (busy : Bool) (s : State) : (acceptClose who busy s).nt = emptyTable := by
  simp [acceptClose, enterClosing]

/-- A reader command leaves the table, but for an accepted CLOSE, which clears it (R13, R98). -/
theorem examineCommand_nt (kind : CommandKind) (f : CommandFrame) (busy : Bool) (s : State) :
    (examineCommand kind f busy s).nt = s.nt ∨ (examineCommand kind f busy s).nt = emptyTable := by
  unfold examineCommand
  dsimp only
  split
  · simp
  · split
    · simp
    · split
      · cases kind with
        | close =>
          simp only [dispatchCommand, takeClose]
          split
          · exact .inr (acceptClose_nt ..)
          · split <;> simp
        | _ => simp [dispatchCommand]
      · simp

theorem receiveCommand_table (kind : CommandKind) (f : CommandFrame) (busy : Bool) {s : State} (h : s.TableKept) :
    (receiveCommand kind f busy s).TableKept := by
  unfold receiveCommand delivered
  split
  · rcases examineCommand_nt kind f busy (countGood s) with e | e
    · simpa [State.TableKept, e] using h
    · simpa [State.TableKept, e] using emptyTable_sound _
  · exact h

theorem supplyFallsCritical_table (busy : Bool) {s : State} (h : s.TableKept) :
    (supplyFallsCritical busy s).TableKept := by
  have fall : ∀ u : State, u.TableKept → (fallToCritical busy u).TableKept := by
    intro u hu
    unfold fallToCritical
    dsimp only
    split
    · simpa [State.TableKept] using hu
    · simp only [State.TableKept, enterHaltPending, offerCritical]
      split <;> simpa using emptyTable_sound _
  unfold supplyFallsCritical
  split
  · exact fall _ (by simpa [State.TableKept] using h)
  · exact fall _ h
  · exact h

theorem eraseCompletes_table (busy : Bool) {s : State} (h : s.TableKept) : (eraseCompletes busy s).TableKept := by
  unfold eraseCompletes
  split
  · simp only [State.TableKept, answerHeld_frame, blankBlocks_frame]
    simpa [blankBlocks] using emptyTable_sound _
  · exact h

theorem examineStore_nt (s : State) : (examineStore s).nt = s.nt ∧ (examineStore s).info = s.info := by
  unfold examineStore
  split
  · exact ⟨rfl, rfl⟩
  · split
    · exact ⟨rfl, rfl⟩
    · split
      · exact ⟨rfl, rfl⟩
      · unfold restore
        dsimp only
        split <;> simp [restoreBlocks, startTimebase]

theorem powerOn_table (mv : Nat) (s : State) : (examineStore (poweredAt mv s)).TableKept := by
  obtain ⟨hnt, hinfo⟩ := examineStore_nt (poweredAt mv s)
  simp only [State.TableKept, hnt, hinfo]
  exact emptyTable_sound _

theorem exec_table (i : Instr) {s : State} (h : s.TableKept) : (afterExec i s).TableKept := by
  apply exec_ind State.TableKept s h
  case command => exact fun kind f busy _ => receiveCommand_table kind f busy h
  case beacon =>
    intro b q _ _
    unfold dispatchBeacon
    split
    · exact takeBeacon_table _ _ (by simpa [State.TableKept] using h)
    · simpa [State.TableKept, discardFrame] using h
  case conversion => exact fun code busy _ => conversionEnds_table code busy h
  case atBoundary => exact fun _ => boundary_table h
  case critical => exact fun busy _ => supplyFallsCritical_table busy h
  case erased => exact fun busy _ => eraseCompletes_table busy h
  case loss => exact fun _ => emptyTable_sound _
  case on => exact fun mv => powerOn_table mv s
  all_goals
    intros
    simpa [State.TableKept, discardFrame] using h

/-- Settles O6: an entry, an ageing and an emptied table each keep the table sound, and nothing else touches it. -/
theorem stepKeepsNeighbourTable : Obligations.StepKeepsNeighbourTable := fun _ _ hs h =>
  step_ind State.TableKept (fun i _ h => exec_table i h) (fun _ _ h => h) (fun _ h => h) (fun _ h => h)
    (fun _ _ h => h) (fun _ _ h => h) hs h

end Sys2Proof.Machine
end

section
/-! SUPPORT. What the commands do to the fault status: they note faults, read the detail out, and set the supply, and only an
erase, a loss of retention memory and a power-on do more (R155, R169, R179, R180); with the settled statements beside
them. -/

namespace Sys2Proof.Machine

/-- The fault status moves from the first to the second by notes, by settings of the supply, the activity and the
halt-pending flag, and by emptyings of the detail (R155, R169, R180). -/
inductive FaultsMove (a : SupplyBlock) : SupplyBlock → Prop where
  | refl : FaultsMove a a
  | noted {b : SupplyBlock} (code : FaultCode) (at_ : Capture) (datum : List Byte) :
      FaultsMove a b → FaultsMove a (b.noted code at_ datum)
  | supplied {b : SupplyBlock} (x : Supply) (y : Activity) (z : Bool) :
      FaultsMove a b → FaultsMove a { b with supply := x, activity := y, haltPending := z }
  | read {b : SupplyBlock} : FaultsMove a b → FaultsMove a { b with context := none, multiple := false, unread := 0 }

theorem FaultsMove.trans {a b c : SupplyBlock} (h : FaultsMove a b) (g : FaultsMove b c) : FaultsMove a c := by
  induction g with
  | refl => exact h
  | noted code at_ datum _ ih => exact .noted code at_ datum ih
  | supplied x y z _ ih => exact .supplied x y z ih
  | read _ ih => exact .read ih

theorem NotesOnly.move {a b : SupplyBlock} (h : NotesOnly a b) : FaultsMove a b := by
  induction h with
  | refl => exact .refl
  | tail _ ih => exact .noted _ _ _ ih

theorem FaultsMove.notes {a b c : SupplyBlock} (h : FaultsMove a b) (g : NotesOnly b c) : FaultsMove a c :=
  h.trans g.move

/-- No move takes a code out of the sticky set. -/
theorem FaultsMove.sticky {a b : SupplyBlock} (h : FaultsMove a b) : a.sticky ||| b.sticky = b.sticky := by
  induction h with
  | refl => exact BitVec.or_self
  | noted code at_ datum _ ih => simp only [SupplyBlock.noted]; rw [← BitVec.or_assoc, ih]
  | supplied x y z _ ih => exact ih
  | read _ ih => exact ih

theorem SupplyBlock.FaultsSound.noted {sf : SupplyBlock} (h : sf.FaultsSound) (code : FaultCode) (at_ : Capture)
    (datum : List Byte) : (sf.noted code at_ datum).FaultsSound := by
  obtain ⟨hempty, hmultiple, hbounded⟩ := h
  refine ⟨?_, ?_, by simp [SupplyBlock.noted, satAdd]⟩
  · simp only [SupplyBlock.noted, satAdd]
    cases sf.context <;> simp
  · simp only [SupplyBlock.noted, satAdd, Bool.or_eq_true]
    rintro (hm | hc)
    · have := hmultiple hm; omega
    · have : sf.unread ≠ 0 := fun h0 => by simp [hempty.mpr h0] at hc
      omega

theorem FaultsMove.sound {a b : SupplyBlock} (h : FaultsMove a b) (ha : a.FaultsSound) : b.FaultsSound := by
  induction h with
  | refl => exact ha
  | noted code at_ datum _ ih => exact ih.noted code at_ datum
  | supplied x y z _ ih => exact ⟨ih.emptyAtZero, ih.multipleFromTwo, ih.bounded⟩
  | read _ _ => exact ⟨by simp, by simp, by simp⟩

/-! ## The commands -/

theorem setSupply_sf (x : Supply) (s : State) : (setSupply x s).sf = { s.sf with supply := x } := by
  simp [setSupply]

theorem fallToLow_move (s : State) : FaultsMove s.sf (fallToLow s).sf :=
  FaultsMove.notes (.supplied .low s.sf.activity s.sf.haltPending .refl) ((noteNow_notes _ _ _).of_eq (by simp))

theorem riseToLow_move (s : State) : FaultsMove s.sf (riseToLow s).sf := by
  have hlow : FaultsMove s.sf (setSupply .low s).sf :=
    setSupply_sf .low s ▸ .supplied .low s.sf.activity s.sf.haltPending .refl
  unfold riseToLow
  dsimp only
  split
  · simp only [clearCompare, clearRise_frame]
    exact hlow.trans ((FaultsMove.supplied (setSupply .low s).sf.supply .running (setSupply .low s).sf.haltPending .refl).notes
      ((startWrites_notes _).of_eq (by simp)))
  · exact hlow

theorem enterHaltPending_notes (busy : Bool) (s : State) :
    NotesOnly { s.sf with haltPending := true } (enterHaltPending busy s).sf :=
  ((abortBurst_notes busy { s with sf := { s.sf with haltPending := true } }).trans (runDeferred_notes _)).trans
    ((offerCritical_notes _).of_eq (by simp))

theorem fallToCritical_move (busy : Bool) (s : State) : FaultsMove s.sf (fallToCritical busy s).sf := by
  have hcritical : FaultsMove s.sf (setSupply .critical s).sf :=
    setSupply_sf .critical s ▸ .supplied .critical s.sf.activity s.sf.haltPending .refl
  unfold fallToCritical
  dsimp only
  split
  · exact hcritical
  · exact (hcritical.trans (.supplied (setSupply .critical s).sf.supply (setSupply .critical s).sf.activity true .refl)).notes
      (enterHaltPending_notes busy _)

theorem halts_move (s : State) : FaultsMove s.sf (halts s).sf := by
  unfold halts
  split
  · split
    · exact FaultsMove.notes (.supplied s.sf.supply .halted false .refl)
        (noteNow_notes .supplyCritical [1] { s with sf := { s.sf with activity := .halted, haltPending := false } })
    · simp only [resume_frame]
      exact .supplied _ _ false (noteNow_notes _ _ _).move
  · exact .refl

theorem takeQuery_move (who : Asker) (page index : Nat) (busy : Bool) (s : State) :
    FaultsMove s.sf (takeQuery who page index busy s).sf := by
  have custody : ∀ u : State, NotesOnly s.sf u.sf → FaultsMove s.sf (inCustody who busy s u).sf := by
    intro u hu
    unfold inCustody
    split
    · exact (answer_notes ..).move
    · exact hu.move
  unfold takeQuery
  split
  case h_10 => exact FaultsMove.notes (.read .refl) (answerPage_notes who 10 (faultsPage s) busy (clearFaultDetail s))
  case h_12 => exact (answer_notes ..).move
  case h_3 => exact (answerPage_notes ..).move
  case h_9 | h_11 => exact (answerIndexed_notes ..).move
  case h_1 | h_2 | h_7 => exact custody _ (answerPage_notes ..)
  all_goals exact custody _ (answerIndexed_notes ..)

theorem dispatchCommand_move (kind : CommandKind) (who : Asker) (payload : List Byte) (busy : Bool) (s : State) :
    FaultsMove s.sf (dispatchCommand kind who payload busy s).sf := by
  cases kind with
  | commission => exact (takeCommission_notes ..).move
  | handover => exact (takeHandover_notes ..).move
  | query => exact takeQuery_move ..
  | live => exact (takeLive_notes ..).move
  | close => exact (takeClose_notes ..).move
  | erase => exact (takeErase_notes ..).move

theorem examineCommand_move (kind : CommandKind) (f : CommandFrame) (busy : Bool) (s : State) :
    FaultsMove s.sf (examineCommand kind f busy s).sf := by
  unfold examineCommand
  dsimp only
  split
  · simp [FaultsMove.refl]
  · have counted : s.sf = (counting (fun c => { c with commandsTaken := bump c.commandsTaken }) s).sf := by simp
    rw [counted]
    split
    · exact (answer_notes ..).move
    · split
      · exact dispatchCommand_move ..
      · exact (answer_notes ..).move

/-- Every command that leaves the power as it is moves the fault status, but for the completion of an erase. -/
theorem exec_faultsMove {i : Instr} {s : State} (he : s.cu.custody = .erasing → ∀ b, i ≠ .eraseComplete b)
    (hl : i ≠ .retentionLoss) (hp : ∀ mv, i ≠ .powerOn mv) : FaultsMove s.sf (afterExec i s).sf := by
  apply exec_ind_powered (fun t => FaultsMove s.sf t.sf) .refl
  case hl => exact hl
  case hp => exact hp
  case command =>
    intro kind f busy
    unfold receiveCommand delivered
    split
    · simpa using examineCommand_move kind f busy (countGood s)
    · exact .refl
  case good => simp [discardFrame, FaultsMove.refl]
  case bad =>
    intro q _
    exact ((noteNow_notes .crcError [q] _).of_eq (by simp)).move
  case beacon =>
    intro b q _
    exact ((dispatchBeacon_notes b q (countGood s)).of_eq (by simp)).move
  case settling => simp [FaultsMove.refl]
  case conversion => exact fun code busy => (conversionEnds_notes code busy s).move
  case atBoundary => exact (boundary_notes s).move
  case atCompare => exact (compareMatches_notes s).move
  case due => exact fun busy => (beaconDue_notes busy s).move
  case backoff => exact fun busy next => (backoffEnds_notes busy next s).move
  case complete => exact fun busy => (transmitCompletes_notes busy s).move
  case timeout => exact fun busy => (transmitTimesOut_notes busy s).move
  case wait => exact fun busy => (waitEnds_notes busy s).move
  case write => exact fun v b busy => (writeEnds_notes v b busy s).move
  case handOver => exact (handOverClosing_notes s).move
  case admitted => exact (admitCritical_notes s).move
  case low =>
    unfold supplyFallsLow
    split
    · exact fallToLow_move s
    · exact .refl
  case rises =>
    unfold supplyRisesGood
    split
    · exact .refl
    · exact setSupply_sf .good s ▸ .supplied .good s.sf.activity s.sf.haltPending .refl
    · rw [setSupply_sf]
      exact .supplied .good _ _ (riseToLow_move s)
  case critical =>
    intro busy
    unfold supplyFallsCritical
    split
    · exact (fallToLow_move s).trans (fallToCritical_move busy _)
    · exact fallToCritical_move busy s
    · exact .refl
  case recovers =>
    unfold supplyRecovers
    split
    · exact riseToLow_move s
    · exact .refl
  case ready => exact halts_move s
  case erased =>
    intro busy hi
    unfold eraseCompletes
    rw [if_neg fun h => he h busy hi]
    exact .refl

/-- Settles O13: every move keeps the sticky set's members. -/
theorem stickySetOnlyGrows : Obligations.StickySetOnlyGrows := by
  intro i s t h
  rw [eq_afterExec h]
  by_cases he : s.cu.custody = .erasing ∧ ∃ b, i = .eraseComplete b
  · exact .inl he
  by_cases hl : i = .retentionLoss
  · exact .inr (.inl hl)
  by_cases hp : ∃ mv, i = .powerOn mv
  · exact .inr (.inr (.inl hp))
  · exact .inr (.inr (.inr (exec_faultsMove (fun h b hb => he ⟨h, b, hb⟩) hl (fun mv hmv => hp ⟨mv, hmv⟩)).sticky))

/-! ## Erase, loss and power-on -/

theorem FaultsSound.start (x : Supply) (y : Activity) : (SupplyBlock.start x y).FaultsSound :=
  ⟨by simp [SupplyBlock.start], by simp [SupplyBlock.start], by simp [SupplyBlock.start]⟩

theorem eraseCompletes_faults (busy : Bool) {s : State} (h : s.sf.FaultsSound) :
    (eraseCompletes busy s).sf.FaultsSound := by
  unfold eraseCompletes
  split
  · refine (answerHeld_notes s.es.held .ok 0 [] busy (blankBlocks busy s)).move.sound ?_
    simp only [blankBlocks, selectMode_frame]
    exact ⟨by simp, by simp, by simp⟩
  · exact h

theorem examineStore_faults {s : State} (h : s.sf.FaultsSound) : (examineStore s).sf.FaultsSound := by
  unfold examineStore
  split
  · exact h
  · split
    · exact h
    · split
      · exact ⟨h.emptyAtZero, h.multipleFromTwo, h.bounded⟩
      · rename_i p _ _ _
        have hb : (restoreBlocks p s).sf.FaultsSound := ⟨h.emptyAtZero, h.multipleFromTwo, h.bounded⟩
        refine ((NotesOnly.trans ?_ ((noteNow_notes _ _ _).trans (startWrites_notes _))).move).sound hb
        split
        · exact noteNow_notes ..
        · exact .refl

theorem exec_faults (i : Instr) {s : State} (h : s.sf.FaultsSound) : (afterExec i s).sf.FaultsSound := by
  by_cases hp : ∃ mv, i = .powerOn mv
  · obtain ⟨mv, rfl⟩ := hp
    exact examineStore_faults (s := poweredAt mv s) (FaultsSound.start _ _)
  have kept : ∀ f : State → State, (f s).sf.FaultsSound → (if s.powered then f s else s).sf.FaultsSound := by
    intro f hf
    split
    · exact hf
    · exact h
  by_cases hl : i = .retentionLoss
  · subst hl
    exact kept withoutPower (FaultsSound.start _ _)
  by_cases he : ∃ b, i = .eraseComplete b
  · obtain ⟨b, rfl⟩ := he
    exact kept (eraseCompletes b) (eraseCompletes_faults b h)
  · exact (exec_faultsMove (fun _ b hb => he ⟨b, hb⟩) hl (fun mv hmv => hp ⟨mv, hmv⟩)).sound h

/-- Settles O5: moves of the fault status, an erase and a start keep it sound, and time does not touch it. -/
theorem stepKeepsFaultStatus : Obligations.StepKeepsFaultStatus := fun _ _ hs h =>
  step_ind (fun u => u.sf.FaultsSound) (fun i _ h => exec_faults i h) (fun _ _ h => h) (fun _ h => h) (fun _ h => h)
    (fun _ _ h => h) (fun _ _ h => h) hs h

end Sys2Proof.Machine
end

section
/-! SUPPORT. A close, and everything that runs one, reaches its state by updates that leave the write queue and by offers of
episodes and of checkpoints (R87, R88, R125): said once, for the invariants that look at the store. -/

namespace Sys2Proof.Machine

/-- The records that a close offers: an episode, and a checkpoint whose write has not started (R87, R88). -/
def QueueRecord.ofClose : QueueRecord → Prop
  | .episode _ | .checkpoint none => True
  | .profile _ | .leg _ | .checkpoint (some _) | .certificate _ => False

/-- An update that a close makes outside the write queue. -/
structure CloseUpdate (s t : State) : Prop where
  info : t.info = s.info
  tb : t.tb = s.tb
  nv : t.nv = s.nv
  state : t.es.state = s.es.state
  queue : t.es.queue = s.es.queue
  stored : t.es.storedCount = s.es.storedCount
  ring : t.es.ringPosition = s.es.ringPosition
  waiting : t.es.criticalWaiting = s.es.criticalWaiting
  openLeg : t.es.openLeg.isSome = s.es.openLeg.isSome
  commissioned : t.cu.commissioned = s.cu.commissioned
  notes : NotesOnly s.sf t.sf
  history : s.ie.history.length ≤ 64 → t.ie.history.length ≤ 64

/-- The second state is reached from the first as a close reaches its state. -/
inductive CloseReach (s : State) : State → Prop where
  | refl : CloseReach s s
  | update {t u : State} : CloseReach s t → CloseUpdate t u → CloseReach s u
  | offered {t : State} {r : QueueRecord} : CloseReach s t → r.ofClose → CloseReach s (offer r t)

theorem CloseReach.trans {s t u : State} (h : CloseReach s t) (g : CloseReach t u) : CloseReach s u := by
  induction g with
  | refl => exact h
  | update _ hu ih => exact ih.update hu
  | offered _ hr ih => exact ih.offered hr

theorem CloseUpdate.reach {s t : State} (h : CloseUpdate s t) : CloseReach s t := .update .refl h

theorem CloseReach.notes {s t : State} (h : CloseReach s t) : NotesOnly s.sf t.sf := by
  induction h with
  | refl => exact .refl
  | update _ hu ih => exact ih.trans hu.notes
  | offered _ _ ih => exact ih.trans (offer_notes ..)

theorem CloseReach.offers {s t : State} (h : CloseReach s t) {rs : List QueueRecord} (hrs : ∀ r ∈ rs, r.ofClose) :
    CloseReach s (offerAll rs t) := by
  induction rs generalizing t with
  | nil => exact h
  | cons r rest ih =>
    exact ih (h.offered (hrs r List.mem_cons_self)) fun x hx => hrs x (List.mem_cons_of_mem r hx)

/-- An update of the exposure engine alone that keeps the ring within its bound. -/
theorem CloseUpdate.ofIe {s : State} {ie : ExposureBlock} (h : s.ie.history.length ≤ 64 → ie.history.length ≤ 64) :
    CloseUpdate s { s with ie := ie } :=
  ⟨rfl, rfl, rfl, rfl, rfl, rfl, rfl, rfl, rfl, rfl, .refl, h⟩

theorem afterRecord_update (p : Bool) (acc : Accumulator) (s : State) : CloseUpdate s (afterRecord p acc s) := by
  refine ⟨by simp, by simp, by simp, by simp, by simp, by simp, by simp, by simp, by simp, by simp,
    afterRecord_notes .., fun _ => ?_⟩
  simp [afterRecord, pushHistory]

theorem episodeStage_reach (n : Nat) (ev : Evidence) (c : Charged) (s : State) :
    CloseReach s (episodeStage n ev c s) := by
  unfold episodeStage
  refine CloseReach.offers (CloseUpdate.reach ?_) ?_
  · exact ⟨rfl, rfl, rfl, rfl, rfl, rfl, rfl, rfl, by simp, rfl, .refl, id⟩
  · intro r hr
    obtain ⟨e, _, rfl⟩ := List.mem_map.mp hr
    exact trivial

theorem addCauses_reach (new : Causes) (n : Nat) (s : State) : CloseReach s (addCauses new n s) := by
  have custody : ∀ cu : CustodyBlock, cu.commissioned = s.cu.commissioned → CloseUpdate s { s with cu := cu } :=
    fun cu h => ⟨rfl, rfl, rfl, rfl, rfl, rfl, rfl, rfl, rfl, h, .refl, id⟩
  unfold addCauses
  split
  · split
    · exact CloseReach.refl.update (custody _ rfl)
    · exact .offered (CloseReach.refl.update (custody _ rfl)) trivial
  · exact .refl

theorem custodyStage_reach (own : Charges) (found : Causes) (n : Nat) (s : State) :
    CloseReach s (custodyStage own found n s) := by
  unfold custodyStage
  dsimp only
  split
  · exact addCauses_reach ..
  · exact (addCauses_reach found n s).update ⟨rfl, rfl, rfl, rfl, rfl, rfl, rfl, rfl, rfl, rfl, .refl, id⟩

theorem precoolStage_reach (p starts : Bool) (n : Nat) (s : State) : CloseReach s (precoolStage p starts n s) := by
  have counted : CloseReach s { s with ie := { s.ie with precoolCount := satAdd 240 s.ie.precoolCount 1 } } :=
    CloseReach.refl.update (.ofIe id)
  unfold precoolStage
  dsimp only
  split
  · exact .refl
  · split
    · exact CloseUpdate.reach ⟨rfl, rfl, rfl, rfl, rfl, rfl, rfl, rfl, rfl, rfl, .refl, id⟩
    · split
      · exact counted.trans (addCauses_reach ..)
      · exact counted

theorem handOn_reach (p : Bool) (acc : Accumulator) (ev : Evidence) (raised : Bool) (s : State) :
    CloseReach s (handOn p acc ev raised s) := by
  unfold handOn
  refine .update (t := if acc.interval % 15 = 14 ∧ p = false then offer (.checkpoint none) s else s) ?_
    ⟨rfl, rfl, rfl, rfl, rfl, rfl, rfl, rfl, rfl, rfl, .refl, id⟩
  split
  · exact .offered .refl trivial
  · exact .refl

theorem closeInterval_reach (p : Bool) (acc : Accumulator) (s : State) : CloseReach s (closeInterval p acc s) := by
  have episodes : CloseReach s (afterEpisodes p acc s) := by
    unfold afterEpisodes
    split
    · exact (afterRecord_update p acc s).reach.trans (episodeStage_reach ..)
    · exact (afterRecord_update p acc s).reach
  have custody : CloseReach s (afterCustody p acc s) := by
    unfold afterCustody
    dsimp only
    split
    · exact episodes.trans (custodyStage_reach ..)
    · exact episodes.trans (precoolStage_reach ..)
  exact custody.trans (handOn_reach ..)

theorem runDeferred_reach (s : State) : CloseReach s (runDeferred s) := by
  unfold runDeferred
  split
  · exact (closeInterval_reach ..).update (.ofIe id)
  · exact .refl

theorem partialCloseNow_reach (s : State) : CloseReach s (partialCloseNow s) := by
  unfold partialCloseNow
  split
  · exact (closeInterval_reach ..).update (.ofIe id)
  · exact .refl

theorem boundaryToExposure_reach (s : State) : CloseReach s (boundaryToExposure s) := by
  unfold boundaryToExposure
  split
  · have passed := (runDeferred_reach s).update (CloseUpdate.ofIe (s := runDeferred s)
      (ie := { (runDeferred s).ie with
        old := (runDeferred s).ie.cur, cur := some (Accumulator.empty (runDeferred s).tb.interval) }) id)
    dsimp only
    split
    · split
      · exact passed
      · exact passed.trans (runDeferred_reach _)
    · exact passed
  · exact .refl

theorem deliverToExposure_reach (r : BurstResult) (s : State) : CloseReach s (deliverToExposure r s) := by
  have folded : CloseReach s { s with ie := { s.ie with old := foldInto r s.ie.old, cur := foldInto r s.ie.cur } } :=
    CloseReach.refl.update (.ofIe id)
  unfold deliverToExposure
  dsimp only
  split
  · split
    · exact folded.trans (runDeferred_reach _)
    · exact folded
  · exact folded

end Sys2Proof.Machine
end

section
/-! SUPPORT. The store's bounds, its state with its queue, and its stored episodes through every command (R83, R123 to R133,
R141, R175); with the settled statement beside them. -/

namespace Sys2Proof.Machine

/-- What the store soundness says of the areas and the counters, whatever the queue does. -/
structure State.StoreBase (s : State) : Prop where
  stored : s.es.storedCount ≤ 96
  ring : s.es.ringPosition < 8
  history : s.ie.history.length ≤ 64
  episodes : s.nv.episodes.length = 96
  legs : s.nv.legs.length = 16
  checkpoints : s.nv.checkpoints.length = 8
  filled : s.EpisodesFilled

/-- What the store soundness says of the queue and of the head of a store that is writing. -/
structure State.QueueBase (s : State) : Prop where
  length : s.es.queue.length ≤ 4
  writing : s.es.state = .writing → s.es.queue ≠ []
  room : ∀ e rest, s.es.state = .writing → s.es.queue = .episode e :: rest → s.es.storedCount < 96
  taken : ∀ rest, s.es.state = .writing → s.es.queue ≠ .checkpoint none :: rest

/-- What the store soundness says of the store's state and the activity. -/
structure State.StoreQuiet (s : State) : Prop where
  idle : s.es.state = .idle → s.sf.activity = .running → s.es.queue = []
  halted : s.sf.activity = .halted → s.es.state = .idle

/-- The store is sound, and its stored episodes stand where they should. -/
structure State.StoreKept (s : State) : Prop where
  base : s.StoreBase
  queue : s.QueueBase
  quiet : s.StoreQuiet

theorem storeKept_iff {s : State} : s.StoreKept ↔ s.StoreSound ∧ s.EpisodesFilled := by
  constructor
  · rintro ⟨⟨h1, h2, h3, h4, h5, h6, h7⟩, ⟨g1, g2, g3, g4⟩, ⟨k1, k2⟩⟩
    exact ⟨⟨g1, h1, h2, h3, h4, h5, h6, g2, g3, g4, k1, k2⟩, h7⟩
  · rintro ⟨⟨g1, h1, h2, h3, h4, h5, h6, g2, g3, g4, k1, k2⟩, h7⟩
    exact ⟨⟨h1, h2, h3, h4, h5, h6, h7⟩, ⟨g1, g2, g3, g4⟩, ⟨k1, k2⟩⟩

/-- The two states agree in what the store soundness looks at, the activity apart. -/
structure SameStore (s t : State) : Prop where
  state : t.es.state = s.es.state
  queue : t.es.queue = s.es.queue
  stored : t.es.storedCount = s.es.storedCount
  ring : t.es.ringPosition = s.es.ringPosition
  nv : t.nv = s.nv
  history : s.ie.history.length ≤ 64 → t.ie.history.length ≤ 64

theorem SameStore.base {s t : State} (h : SameStore s t) (hs : s.StoreBase) : t.StoreBase := by
  obtain ⟨h1, h2, h3, h4, h5, h6, h7⟩ := hs
  refine ⟨h.stored ▸ h1, h.ring ▸ h2, h.history h3, h.nv ▸ h4, h.nv ▸ h5, h.nv ▸ h6, ?_⟩
  unfold State.EpisodesFilled
  rw [h.nv, h.stored]; exact h7

theorem SameStore.queueBase {s t : State} (h : SameStore s t) (hs : s.QueueBase) : t.QueueBase := by
  obtain ⟨h1, h2, h3, h4⟩ := hs
  refine ⟨?_, ?_, ?_, ?_⟩ <;> simp only [h.queue, h.state, h.stored] <;> assumption

theorem SameStore.kept {s t : State} (h : SameStore s t) (ha : t.sf.activity = s.sf.activity) (hs : s.StoreKept) :
    t.StoreKept :=
  ⟨h.base hs.base, h.queueBase hs.queue, ⟨by rw [h.state, h.queue, ha]; exact hs.quiet.idle,
    by rw [h.state, ha]; exact hs.quiet.halted⟩⟩

/-! ## The write queue -/

theorem foldEpisode_same (e : Episode) (s : State) : SameStore s (foldEpisode e s) :=
  ⟨(foldEpisode_queue e s).2, (foldEpisode_queue e s).1, by simp, by simp, by simp, by simp⟩

theorem foldEpisode_activity (e : Episode) (s : State) : (foldEpisode e s).sf.activity = s.sf.activity :=
  (foldEpisode_notes e s).supply.2.1

/-- The base stands whatever the queue holds, while the areas keep their lengths and their episodes. -/
theorem State.StoreBase.ofAreas {s t : State} (hs : s.StoreBase) (hstored : t.es.storedCount = s.es.storedCount)
    (hring : t.es.ringPosition = s.es.ringPosition) (hhistory : t.ie.history = s.ie.history)
    (hepisodes : t.nv.episodes = s.nv.episodes) (hlegs : t.nv.legs.length = s.nv.legs.length)
    (hcheckpoints : t.nv.checkpoints.length = s.nv.checkpoints.length) : t.StoreBase := by
  obtain ⟨h1, h2, h3, h4, h5, h6, h7⟩ := hs
  refine ⟨hstored ▸ h1, hring ▸ h2, hhistory ▸ h3, hepisodes ▸ h4, hlegs ▸ h5, hcheckpoints ▸ h6, ?_⟩
  unfold State.EpisodesFilled
  rw [hepisodes, hstored]; exact h7

/-- A store that writes the head of a queue of at most four is sound. -/
theorem writing_kept {q : List QueueRecord} {s : State} (hb : s.StoreBase) (hq : q.length ≤ 4) (hne : q ≠ [])
    (hroom : ∀ e rest, q = .episode e :: rest → s.es.storedCount < 96) (htaken : ∀ rest, q ≠ .checkpoint none :: rest)
    (ha : s.sf.activity = .running) : (writing q s).StoreKept :=
  ⟨hb.ofAreas rfl rfl rfl rfl rfl rfl, ⟨hq, fun _ => hne, fun e rest _ => hroom e rest, fun rest _ => htaken rest⟩,
    ⟨fun h => by simp [writing] at h, fun h => by simp [ha] at h⟩⟩

/-- Taking up a queue of at most four leaves a sound store (R127, R133). -/
theorem writeHead_kept {q : List QueueRecord} {s : State} (hb : s.StoreBase) (hq : q.length ≤ 4)
    (ha : s.sf.activity = .running) : (writeHead q s).StoreKept := by
  induction q generalizing s with
  | nil =>
    exact ⟨hb.ofAreas rfl rfl rfl rfl rfl rfl, ⟨by simp [writeHead], fun h => by simp [writeHead] at h,
      fun _ _ h => by simp [writeHead] at h, fun _ h => by simp [writeHead] at h⟩,
      ⟨fun _ _ => rfl, fun _ => rfl⟩⟩
  | cons r rest ih =>
    cases r with
    | episode e =>
      simp only [writeHead]
      split
      · exact ih ((foldEpisode_same e s).base hb) (by simp at hq; omega) ((foldEpisode_activity e s).trans ha)
      · exact writing_kept hb hq (by simp) (fun _ _ _ => by omega) (by simp) ha
    | checkpoint c =>
      exact writing_kept (hb.ofAreas rfl rfl rfl rfl rfl (by simp)) hq (by simp) (by simp) (by simp) ha
    | leg l =>
      exact writing_kept (hb.ofAreas rfl rfl rfl rfl (by simp) rfl) hq (by simp) (by simp) (by simp) ha
    | profile p => exact writing_kept hb hq (by simp) (by simp) (by simp) ha
    | certificate c => exact writing_kept hb hq (by simp) (by simp) (by simp) ha

/-- An IDLE store takes its queue up while RUNNING; any other keeps what it holds (R127, R130). -/
theorem startWrites_kept {s : State} (hb : s.StoreBase) (hq : s.QueueBase)
    (hhalted : s.sf.activity = .halted → s.es.state = .idle) : (startWrites s).StoreKept := by
  unfold startWrites
  split
  · rename_i h
    exact writeHead_kept hb hq.length h.2
  · rename_i h
    exact ⟨hb, hq, ⟨fun hi hr => absurd ⟨hi, hr⟩ h, hhalted⟩⟩

theorem joinQueue_kept (r : QueueRecord) {s : State} (h : s.StoreKept) (hroom : s.es.queue.length < 4) :
    (joinQueue r s).StoreKept := by
  have hne : s.es.state = .writing → ∃ x rest, s.es.queue = x :: rest :=
    fun hw => List.exists_cons_of_ne_nil (h.queue.writing hw)
  refine startWrites_kept (h.base.ofAreas rfl rfl rfl rfl rfl rfl) ⟨?_, ?_, ?_, ?_⟩ h.quiet.halted
  · simp; omega
  · simp
  · intro e rest hw hq
    obtain ⟨x, tail, hx⟩ := hne hw
    simp only [hx, List.cons_append, List.cons.injEq] at hq
    exact h.queue.room e tail hw (hq.1 ▸ hx)
  · intro rest hw hq
    obtain ⟨x, tail, hx⟩ := hne hw
    simp only [hx, List.cons_append, List.cons.injEq] at hq
    exact h.queue.taken tail hw (hq.1 ▸ hx)

theorem admitCritical_kept {s : State} (h : s.StoreKept) : (admitCritical s).StoreKept := by
  have hclear : SameStore s { s with es := { s.es with criticalWaiting := false } } := ⟨rfl, rfl, rfl, rfl, rfl, id⟩
  unfold admitCritical
  dsimp only
  split
  · split
    · exact hclear.kept rfl h
    · split
      · exact joinQueue_kept _ (hclear.kept rfl h) ‹_›
      · exact h
  · exact h

theorem noteNow_same (code : FaultCode) (datum : List Byte) (s : State) : SameStore s (noteNow code datum s) :=
  ⟨rfl, rfl, rfl, rfl, rfl, id⟩

theorem refuseRecord_kept (r : QueueRecord) {s : State} (h : s.StoreKept) : (refuseRecord r s).StoreKept := by
  have hn : (noteNow .queueFull r.datum s).StoreKept := (noteNow_same ..).kept rfl h
  cases r with
  | episode e => exact (foldEpisode_same e _).kept (foldEpisode_activity e _) hn
  | _ => exact hn

theorem offer_kept (r : QueueRecord) {s : State} (h : s.StoreKept) : (offer r s).StoreKept := by
  have ha := admitCritical_kept h
  unfold offer
  dsimp only
  split
  · exact ha
  · split
    · exact joinQueue_kept r ha ‹_›
    · exact refuseRecord_kept r ha

/-- The head leaves the queue, and the rest is taken up or held (R127, R130). -/
theorem nextWrite_kept {s : State} (hb : s.StoreBase) (hq : s.es.queue.length ≤ 4) : (nextWrite s).StoreKept := by
  have ht : s.es.queue.tail.length ≤ 4 := by simp; omega
  unfold nextWrite
  split
  · exact writeHead_kept hb ht ‹_›
  · rename_i ha
    exact ⟨hb.ofAreas rfl rfl rfl rfl rfl rfl, ⟨ht, fun h => by simp at h, fun _ _ h => by simp at h,
      fun _ h => by simp at h⟩, ⟨fun _ hr => absurd hr ha, fun _ => rfl⟩⟩

theorem CloseUpdate.same {s t : State} (h : CloseUpdate s t) : SameStore s t :=
  ⟨h.state, h.queue, h.stored, h.ring, h.nv, h.history⟩

theorem CloseReach.store {s t : State} (h : CloseReach s t) (hs : s.StoreKept) : t.StoreKept := by
  induction h with
  | refl => exact hs
  | update _ hu ih => exact hu.same.kept hu.notes.supply.2.1 ih
  | offered _ _ ih => exact offer_kept _ ih

/-! ## The reader commands -/

/-- An operation that leaves the exposure engine, the store and its areas, and only notes, keeps the store sound. -/
theorem State.StoreKept.ofNotes {s t : State} (h : s.StoreKept) (hes : t.es = s.es) (hnv : t.nv = s.nv)
    (hie : t.ie = s.ie) (hsf : t.sf.activity = s.sf.activity) : t.StoreKept :=
  SameStore.kept ⟨by rw [hes], by rw [hes], by rw [hes], by rw [hes], hnv, by rw [hie]; exact id⟩ hsf h

theorem answer_kept (who : Asker) (status : Status) (payload : List Byte) (busy : Bool) {s : State} (h : s.StoreKept) :
    (answer who status payload busy s).StoreKept :=
  h.ofNotes (by simp) (by simp) (by simp) (answer_notes ..).supply.2.1

theorem takeCommission_kept (who : Asker) (payload : List Byte) (busy : Bool) {s : State} (h : s.StoreKept) :
    (takeCommission who payload busy s).StoreKept := by
  unfold takeCommission
  split
  · split
    · exact offer_kept _ (SameStore.kept (s := s) ⟨rfl, rfl, rfl, rfl, rfl, id⟩ rfl h)
    · exact answer_kept _ _ _ _ h
  · exact answer_kept _ _ _ _ h

theorem takeHandover_kept (who : Asker) (payload : List Byte) (busy : Bool) {s : State} (h : s.StoreKept) :
    (takeHandover who payload busy s).StoreKept := by
  unfold takeHandover
  split
  · split
    · exact answer_kept _ _ _ _ h
    · split
      · refine answer_kept _ _ _ _ ?_
        rcases judgeHandover_frame ‹Leg› (fieldAt payload 0 2) (fieldAt payload 2 2) (fieldAt payload 4 1) who.reader s
          with e | e <;> rw [e]
        · exact h
        · exact offer_kept _ (SameStore.kept (s := s) ⟨rfl, rfl, rfl, rfl, rfl, id⟩ rfl h)
      · exact answer_kept _ _ _ _ h
  · split <;> exact answer_kept _ _ _ _ h

theorem takeQuery_supply (who : Asker) (page index : Nat) (busy : Bool) (s : State) :
    (takeQuery who page index busy s).sf.supply = s.sf.supply ∧
    (takeQuery who page index busy s).sf.activity = s.sf.activity ∧
    (takeQuery who page index busy s).sf.haltPending = s.sf.haltPending := by
  have custody : ∀ u : State, NotesOnly s.sf u.sf → (inCustody who busy s u).sf.supply = s.sf.supply
      ∧ (inCustody who busy s u).sf.activity = s.sf.activity
      ∧ (inCustody who busy s u).sf.haltPending = s.sf.haltPending := by
    intro u hu
    unfold inCustody
    split
    · exact (answer_notes ..).supply
    · exact hu.supply
  unfold takeQuery
  split
  case h_10 => exact (answerPage_notes who 10 (faultsPage s) busy (clearFaultDetail s)).supply
  case h_12 => exact (answer_notes ..).supply
  case h_3 => exact (answerPage_notes ..).supply
  case h_9 | h_11 => exact (answerIndexed_notes ..).supply
  case h_1 | h_2 | h_7 => exact custody _ (answerPage_notes ..)
  all_goals exact custody _ (answerIndexed_notes ..)

theorem enterClosing_kept (who : Asker) (busy : Bool) {s : State} (h : s.StoreKept) :
    (enterClosing who busy s).StoreKept :=
  SameStore.kept ⟨by simp [enterClosing], by simp [enterClosing], by simp [enterClosing], by simp [enterClosing],
    by simp, by simp⟩ (enterClosing_notes ..).supply.2.1 h

theorem abortBurst_kept (busy : Bool) {s : State} (h : s.StoreKept) : (abortBurst busy s).StoreKept :=
  h.ofNotes (by simp) (by simp) (by simp) (abortBurst_notes ..).supply.2.1

theorem acceptClose_kept (who : Asker) (busy : Bool) {s : State} (h : s.StoreKept) :
    (acceptClose who busy s).StoreKept :=
  enterClosing_kept who busy ((partialCloseNow_reach _).store ((runDeferred_reach _).store (abortBurst_kept busy h)))

theorem startErase_kept (who : Asker) {s : State} (ha : s.sf.activity = .running) (h : s.StoreKept) :
    (startErase who s).StoreKept :=
  ⟨h.base.ofAreas rfl rfl rfl rfl rfl rfl,
    ⟨h.queue.length, fun h => by simp [startErase] at h, fun _ _ h => by simp [startErase] at h,
      fun _ h => by simp [startErase] at h⟩,
    ⟨fun h => by simp [startErase] at h, fun h => by simp [startErase, ha] at h⟩⟩

theorem dispatchCommand_kept (kind : CommandKind) (who : Asker) (payload : List Byte) (busy : Bool) {s : State}
    (ha : s.sf.activity = .running) (h : s.StoreKept) : (dispatchCommand kind who payload busy s).StoreKept := by
  cases kind with
  | commission => exact takeCommission_kept _ _ _ h
  | handover => exact takeHandover_kept _ _ _ h
  | query =>
    exact h.ofNotes (t := takeQuery who _ _ busy s) (by simp) (by simp) (by simp) (takeQuery_supply ..).2.1
  | live => exact h.ofNotes (t := takeLive who busy s) (by simp) (by simp) (by simp) (takeLive_notes ..).supply.2.1
  | close =>
    simp only [dispatchCommand, takeClose]
    split
    · exact acceptClose_kept _ _ h
    · split
      · exact h.ofNotes (by simp) (by simp) (by simp) (answerPage_notes ..).supply.2.1
      · exact answer_kept _ _ _ _ h
  | erase =>
    simp only [dispatchCommand, takeErase]
    split
    · exact startErase_kept _ ha h
    · split <;> exact answer_kept _ _ _ _ h

theorem examineCommand_kept (kind : CommandKind) (f : CommandFrame) (busy : Bool) {s : State}
    (ha : s.sf.activity = .running) (h : s.StoreKept) : (examineCommand kind f busy s).StoreKept := by
  have counted : ∀ g, (counting g s).StoreKept := fun g => h.ofNotes rfl rfl rfl rfl
  unfold examineCommand
  dsimp only
  split
  · exact counted _
  · split
    · exact answer_kept _ _ _ _ (counted _)
    · split
      · exact dispatchCommand_kept _ _ _ _ ha (counted _)
      · exact answer_kept _ _ _ _ (counted _)

/-- A transceiver that delivers belongs to a RUNNING part (R107). -/
theorem State.RadioSound.running_of_hears {s : State} (h : s.RadioSound) (hh : s.hears = true) :
    s.sf.activity = .running := by
  have he : s.lc.enable = true := by
    unfold State.hears at hh
    simp only [Bool.and_eq_true] at hh
    exact hh.1.1
  exact (h.line.mp he).1

/-! ## The end of a write -/

theorem countStored_le (slots : List (Option Episode)) : countStored slots ≤ slots.length := by
  induction slots with
  | nil => simp [countStored]
  | cons slot rest ih => cases slot <;> simp [countStored, ih]

/-- The slots below the count of a power-on all hold an episode (R175). -/
theorem countStored_filled (slots : List (Option Episode)) :
    ∀ k < countStored slots, ∃ e, slots[k]? = some (some e) := by
  induction slots with
  | nil => simp [countStored]
  | cons slot rest ih =>
    cases slot with
    | none => simp [countStored]
    | some e =>
      intro k hk
      cases k with
      | zero => exact ⟨e, rfl⟩
      | succ k => simpa using ih k (by simpa [countStored] using hk)

theorem episodeStored_base (e : Episode) {s : State} (hb : s.StoreBase) (hroom : s.es.storedCount < 96) :
    (episodeStored e s).StoreBase := by
  obtain ⟨_, h2, h3, h4, h5, h6, h7⟩ := hb
  refine ⟨by simp [episodeStored]; omega, h2, h3, by simp [episodeStored, h4], h5, h6, fun k hk => ?_⟩
  simp only [episodeStored] at hk ⊢
  rw [List.getElem?_set]
  split
  · exact ⟨_, by rw [if_pos (by omega)]⟩
  · exact h7 k (by omega)

theorem legEnds_base (ok : Bool) (l : Leg) {s : State} (hb : s.StoreBase) : (legEnds ok l s).StoreBase :=
  hb.ofAreas rfl rfl rfl rfl (by simp) rfl

theorem checkpointEnds_base (ok : Bool) (c : Option Checkpoint) {s : State} (hb : s.StoreBase) :
    (checkpointEnds ok c s).StoreBase := by
  obtain ⟨h1, _, h3, h4, h5, h6, h7⟩ := hb
  exact ⟨h1, by simp [checkpointEnds]; omega, h3, h4, h5, by simp [checkpointEnds, h6], h7⟩

theorem answerHeld_kept (held : Option Asker) (status : Status) (page : Nat) (payload : List Byte) (busy : Bool)
    {s : State} (h : s.StoreKept) : (answerHeld held status page payload busy s).StoreKept :=
  h.ofNotes (by simp) (by simp) (by simp) (answerHeld_notes ..).supply.2.1

theorem profileWritten_kept (r : ProfileRecord) (busy : Bool) {s : State} (h : s.StoreKept) :
    (profileWritten r busy s).StoreKept := by
  refine answerHeld_kept _ _ _ _ _ ⟨⟨?_, ?_, ?_, ?_, ?_, ?_, ?_⟩, ⟨?_, ?_, ?_, ?_⟩, ⟨?_, ?_⟩⟩
  all_goals simp only [enterPrecool, selectMode_frame, ExposureBlock.blank]
  · omega
  · omega
  · simp
  · exact h.base.episodes
  · exact h.base.legs
  · exact h.base.checkpoints
  · exact fun k hk => by simp at hk
  · exact h.queue.length
  · exact h.queue.writing
  · exact fun _ _ _ _ => by omega
  · exact h.queue.taken
  · exact h.quiet.idle
  · exact h.quiet.halted

theorem recordEnds_kept (ok busy : Bool) (r : QueueRecord) {s : State} (h : s.StoreKept)
    (hroom : ∀ e, r = .episode e → s.es.storedCount < 96) : (recordEnds ok busy r s).StoreKept := by
  have noted : ∃ u, u = (if ok then s else noteNow .storeFail r.datum s) ∧ SameStore s u := by
    refine ⟨_, rfl, ?_⟩
    split
    · exact ⟨rfl, rfl, rfl, rfl, rfl, id⟩
    · exact noteNow_same ..
  obtain ⟨u, hu, same⟩ := noted
  have hb := same.base h.base
  have hq : u.es.queue.length ≤ 4 := same.queue ▸ h.queue.length
  unfold recordEnds
  simp only [← hu]
  cases r with
  | profile p =>
    dsimp only
    split
    · exact profileWritten_kept p busy (nextWrite_kept hb hq)
    · exact answerHeld_kept _ _ _ _ _
        (SameStore.kept (s := nextWrite u) ⟨rfl, rfl, rfl, rfl, rfl, id⟩ rfl (nextWrite_kept hb hq))
  | episode e =>
    dsimp only
    split
    · exact nextWrite_kept (episodeStored_base e hb (same.stored ▸ hroom e rfl)) hq
    · exact nextWrite_kept ((foldEpisode_same e u).base hb) ((foldEpisode_same e u).queue ▸ hq)
  | leg l => exact nextWrite_kept (legEnds_base ok l hb) hq
  | checkpoint c => exact nextWrite_kept (checkpointEnds_base ok c hb) hq
  | certificate c =>
    have hn := nextWrite_kept hb hq
    refine answerHeld_kept _ _ _ _ _ ⟨hn.base.ofAreas rfl rfl rfl ?_ ?_ ?_, ⟨hn.queue.length, hn.queue.writing,
      hn.queue.room, hn.queue.taken⟩, ⟨hn.quiet.idle, hn.quiet.halted⟩⟩ <;> split <;> rfl

theorem writeEnds_kept (v b busy : Bool) {s : State} (h : s.StoreKept) : (writeEnds v b busy s).StoreKept := by
  unfold writeEnds
  split
  · rename_i hw
    split
    · rename_i r rest hq
      exact recordEnds_kept _ _ _ h fun e he => h.queue.room e rest hw (he ▸ hq)
    · exact h
  · exact h

theorem handOverClosing_kept {s : State} (h : s.StoreKept) : (handOverClosing s).StoreKept := by
  have custody : ∀ cu : CustodyBlock, ({ s with cu := cu } : State).StoreKept := fun _ => h.ofNotes rfl rfl rfl rfl
  unfold handOverClosing
  split
  · split
    · exact h
    · dsimp only
      split
      · exact offer_kept _ (custody _)
      · exact offer_kept _ (custody _)
      · exact offer_kept _ (custody _)
      · exact offer_kept _ (custody _)
  · exact h

theorem deliver_kept (busy : Bool) (r : BurstResult) {s : State} (h : s.StoreKept) : (deliver busy r s).StoreKept := by
  have credited : (if r.credit then riseDetect busy r (deliverToExposure r s) else s).StoreKept := by
    split
    · exact ((deliverToExposure_reach r s).store h).ofNotes (by simp) (by simp) (by simp)
        (riseDetect_notes ..).supply.2.1
    · exact h
  unfold deliver
  dsimp only
  split
  · exact credited.ofNotes (by simp) (by simp) (by simp) (answerLive_notes ..).supply.2.1
  · exact credited

theorem completeBurst_kept (busy : Bool) (f : Flight) (codes : List Nat) {s : State} (h : s.StoreKept) :
    (completeBurst busy f codes s).StoreKept := by
  have noted : (noteAll f.start (formResult s.info f codes).2 s).StoreKept :=
    h.ofNotes (by simp) (by simp) (by simp) (noteAll_notes ..).supply.2.1
  have delivered := deliver_kept busy (formResult s.info f codes).1 (s := { noteAll f.start (formResult s.info f codes).2 s with
    mc := { (noteAll f.start (formResult s.info f codes).2 s).mc with last := some (formResult s.info f codes).1 } })
    (noted.ofNotes rfl rfl rfl rfl)
  unfold completeBurst
  exact delivered.ofNotes (by simp) (by simp) (by simp) (by simp)

/-! ## Supply, erase and power -/

theorem riseToLow_kept {s : State} (h : s.StoreKept) : (riseToLow s).StoreKept := by
  have hlow : (setSupply .low s).StoreKept := h.ofNotes (by simp) (by simp) (by simp) (by simp [setSupply_sf])
  unfold riseToLow
  dsimp only
  split
  · let u : State := radioOn { setSupply .low s with sf := { (setSupply .low s).sf with activity := .running } }
    have hu : (startWrites u).StoreKept := by
      refine startWrites_kept (hlow.base.ofAreas rfl rfl rfl rfl rfl rfl) ?_ fun h => by simp [u] at h
      exact SameStore.queueBase (s := setSupply .low s) ⟨rfl, rfl, rfl, rfl, rfl, id⟩ hlow.queue
    exact hu.ofNotes rfl rfl rfl rfl
  · exact hlow

theorem offerCritical_kept {s : State} (h : s.StoreKept) : (offerCritical s).StoreKept := by
  unfold offerCritical
  split
  · exact admitCritical_kept (SameStore.kept (s := s) ⟨rfl, rfl, rfl, rfl, rfl, id⟩ rfl h)
  · exact h

theorem fallToCritical_kept (busy : Bool) {s : State} (h : s.StoreKept) : (fallToCritical busy s).StoreKept := by
  have hcritical : (setSupply .critical s).StoreKept :=
    h.ofNotes (by simp) (by simp) (by simp) (by simp [setSupply_sf])
  unfold fallToCritical
  dsimp only
  split
  · exact hcritical
  · unfold enterHaltPending
    dsimp only
    have pending : ({ setSupply .critical s with
        sf := { (setSupply .critical s).sf with haltPending := true } } : State).StoreKept :=
      hcritical.ofNotes rfl rfl rfl rfl
    exact offerCritical_kept (((runDeferred_reach _).store (abortBurst_kept busy pending)).ofNotes rfl rfl rfl rfl)

theorem supplyFallsCritical_kept (busy : Bool) {s : State} (h : s.StoreKept) :
    (supplyFallsCritical busy s).StoreKept := by
  unfold supplyFallsCritical
  split
  · exact fallToCritical_kept busy (h.ofNotes (by simp) (by simp) (by simp) (by
      simp [fallToLow, noteNow, note, clearFast]))
  · exact fallToCritical_kept busy h
  · exact h

theorem halts_kept {s : State} (h : s.StoreKept) : (halts s).StoreKept := by
  unfold halts
  split
  · rename_i hr
    have hready : s.es.queue = [] ∧ s.es.state = .idle := by
      simp only [State.haltReady, Bool.and_eq_true, decide_eq_true_eq, List.isEmpty_iff] at hr
      exact ⟨hr.1.1.2, hr.1.2⟩
    split
    · exact ⟨h.base.ofAreas rfl rfl rfl rfl rfl rfl, SameStore.queueBase (s := s) ⟨rfl, rfl, rfl, rfl, rfl, id⟩ h.queue,
        ⟨fun _ _ => hready.1, fun _ => hready.2⟩⟩
    · exact h.ofNotes rfl rfl rfl rfl
  · exact h

theorem blankStore_kept {s : State} (hes : s.es = StoreBlock.blank) (hhistory : s.ie.history.length ≤ 64)
    (he : s.nv.episodes.length = 96) (hl : s.nv.legs.length = 16) (hc : s.nv.checkpoints.length = 8) : s.StoreKept := by
  refine ⟨⟨?_, ?_, hhistory, he, hl, hc, ?_⟩, ⟨?_, ?_, ?_, ?_⟩, ⟨?_, ?_⟩⟩
  case refine_3 => unfold State.EpisodesFilled; simp [hes, StoreBlock.blank]
  all_goals simp [hes, StoreBlock.blank]

theorem eraseCompletes_kept (busy : Bool) {s : State} (h : s.StoreKept) : (eraseCompletes busy s).StoreKept := by
  unfold eraseCompletes
  split
  · refine answerHeld_kept _ _ _ _ _ (blankStore_kept ?_ ?_ ?_ ?_ ?_) <;>
      simp [blankBlocks, ExposureBlock.blank, Areas.empty]
  · exact h

theorem withoutPower_kept {s : State} (h : s.StoreKept) : (withoutPower s).StoreKept :=
  blankStore_kept rfl (by simp [withoutPower, ExposureBlock.blank]) h.base.episodes h.base.legs h.base.checkpoints

theorem poweredAt_kept (mv : Nat) {s : State} (h : s.StoreKept) : (poweredAt mv s).StoreKept :=
  blankStore_kept rfl (by simp [poweredAt, withoutPower, ExposureBlock.blank]) h.base.episodes h.base.legs
    h.base.checkpoints

theorem ringAfter_lt (c : Option (Nat × CheckpointContent)) : (ringAfter c).1 < 8 := by
  unfold ringAfter
  split
  · exact Nat.mod_lt _ (by omega)
  · simp

theorem countStored_le_96 {s : State} (h : s.StoreBase) : countStored s.nv.episodes ≤ 96 :=
  (countStored_le _).trans h.episodes.le

theorem restoreBlocks_base (p : ProfileRecord) {s : State} (h : s.StoreBase) : (restoreBlocks p s).StoreBase :=
  ⟨countStored_le_96 h, ringAfter_lt _, by simp [restoreBlocks, startTimebase, ExposureBlock.blank], h.episodes, h.legs,
    h.checkpoints, countStored_filled _⟩

theorem restoreBlocks_queue (p : ProfileRecord) (s : State) :
    (restoreBlocks p s).es.state = .idle ∧ (restoreBlocks p s).es.queue.length ≤ 4 := by
  refine ⟨rfl, ?_⟩
  simp only [restoreBlocks, startTimebase, List.length_cons]
  split <;> simp

theorem restore_kept (p : ProfileRecord) {s : State} (h : s.StoreBase) : (restore p s).StoreKept := by
  have hb := restoreBlocks_base p h
  obtain ⟨hi, hq⟩ := restoreBlocks_queue p s
  have same : SameStore (restoreBlocks p s)
      (if s.nv.used.isNone then noteNow .checkpointBad [4] (restoreBlocks p s) else restoreBlocks p s) := by
    split
    · exact noteNow_same ..
    · exact ⟨rfl, rfl, rfl, rfl, rfl, id⟩
  have queue : (restoreBlocks p s).QueueBase :=
    ⟨hq, fun h => by simp [hi] at h, fun _ _ h => by simp [hi] at h, fun _ h => by simp [hi] at h⟩
  unfold restore
  exact startWrites_kept ((noteNow_same ..).base (same.base hb)) ((noteNow_same ..).queueBase (same.queueBase queue))
    fun _ => same.state.trans hi

theorem comeUpClosed_kept (p : ProfileRecord) (c : Certificate) {s : State} (h : s.StoreBase) :
    (comeUpClosed p c s).StoreKept :=
  ⟨⟨countStored_le_96 h, ringAfter_lt _, by simp [comeUpClosed, startTimebase, ExposureBlock.blank], h.episodes, h.legs,
    h.checkpoints, countStored_filled _⟩,
    ⟨by simp [comeUpClosed, startTimebase, StoreBlock.blank], fun h => by simp [comeUpClosed, startTimebase, StoreBlock.blank] at h,
      fun _ _ h => by simp [comeUpClosed, startTimebase, StoreBlock.blank] at h,
      fun _ h => by simp [comeUpClosed, startTimebase, StoreBlock.blank] at h⟩,
    ⟨fun _ _ => rfl, fun _ => rfl⟩⟩

theorem examineStore_kept {s : State} (h : s.StoreKept) (hes : s.es = StoreBlock.blank) : (examineStore s).StoreKept := by
  unfold examineStore
  split
  · exact blankStore_kept hes h.base.history (by simp [Areas.empty]) (by simp [Areas.empty]) (by simp [Areas.empty])
  · split
    · exact h
    · split
      · exact comeUpClosed_kept _ _ h.base
      · exact restore_kept _ h.base

theorem exec_kept (i : Instr) {s : State} (hr : s.RadioSound) (h : s.StoreKept) : (afterExec i s).StoreKept := by
  apply exec_ind State.StoreKept s h
  case command =>
    intro kind f busy _
    unfold receiveCommand delivered
    split
    · exact examineCommand_kept kind f busy (hr.running_of_hears ‹_›) (h.ofNotes rfl rfl rfl rfl)
    · exact h
  case good => exact fun _ _ => h.ofNotes rfl rfl rfl rfl
  case bad => exact fun _ _ _ => h.ofNotes rfl rfl rfl rfl
  case beacon =>
    exact fun b q _ _ => h.ofNotes (by simp) (by simp) (by simp) ((dispatchBeacon_notes b q _).supply.2.1.trans (by simp))
  case settling => exact fun _ => h.ofNotes (by simp) (by simp) (by simp) (by simp)
  case conversion =>
    intro code busy _
    unfold conversionEnds
    split
    · dsimp only
      split
      · exact h.ofNotes rfl rfl rfl rfl
      · exact completeBurst_kept _ _ _ h
    all_goals exact h
  case atBoundary =>
    intro _
    have steps : (boundarySteps s).StoreKept := h.ofNotes rfl rfl rfl rfl
    unfold boundary
    split
    · exact steps
    · exact (boundaryToExposure_reach _).store steps
  case atCompare => exact fun _ => h.ofNotes (by simp) (by simp) (by simp) (by simp)
  case due => exact fun busy _ => h.ofNotes (by simp) (by simp) (by simp) (beaconDue_notes busy s).supply.2.1
  case backoff =>
    exact fun busy next _ => h.ofNotes (by simp) (by simp) (by simp) (backoffEnds_notes busy next s).supply.2.1
  case complete => exact fun busy _ => h.ofNotes (by simp) (by simp) (by simp) (transmitCompletes_notes busy s).supply.2.1
  case timeout => exact fun busy _ => h.ofNotes (by simp) (by simp) (by simp) (transmitTimesOut_notes busy s).supply.2.1
  case wait => exact fun busy _ => h.ofNotes (by simp) (by simp) (by simp) (waitEnds_notes busy s).supply.2.1
  case write => exact fun v b busy _ => writeEnds_kept v b busy h
  case handOver => exact fun _ => handOverClosing_kept h
  case admitted => exact fun _ => admitCritical_kept h
  case erased => exact fun busy _ => eraseCompletes_kept busy h
  case low =>
    intro _
    refine h.ofNotes (by simp) (by simp) (by simp) ?_
    unfold supplyFallsLow
    split
    · simp [fallToLow, noteNow, note, clearFast]
    · rfl
  case rises =>
    intro _
    unfold supplyRisesGood
    split
    · exact h
    · exact h.ofNotes (by simp) (by simp) (by simp) (by simp [setSupply_sf])
    · exact (riseToLow_kept h).ofNotes (by simp) (by simp) (by simp) (by simp [setSupply_sf])
  case critical => exact fun busy _ => supplyFallsCritical_kept busy h
  case recovers =>
    intro _
    unfold supplyRecovers
    split
    · exact riseToLow_kept h
    · exact h
  case ready => exact fun _ => halts_kept h
  case loss => exact fun _ => withoutPower_kept h
  case on => exact fun mv => examineStore_kept (poweredAt_kept mv h) rfl

/-! ## The step -/

/-- What a step does follows from what the commands do on states with a property that the passing of time keeps. -/
theorem step_of_exec (P Q : State → Prop) (weaken : ∀ s, P s → Q s) (ofExec : ∀ i s, P s → Q (afterExec i s))
    (ofQueue : ∀ s q, P s → P { s with pending := q })
    (ofInputs : ∀ s, P s → P (drawInputs s))
    (ofTimers : ∀ s, P s → P (shortenTimers s))
    (ofQuarter : ∀ s, s.tb.quarter < 3 → P s → P { s with tb := { s.tb with quarter := s.tb.quarter + 1 } })
    (ofPhase : ∀ s, s.tb.phase < 59999 → P s →
      P { s with tb := { s.tb with phase := s.tb.phase + 1, quarter := 0 } })
    {s t : State} (hs : P s) (h : step s = .next t) : Q t := by
  have next : ∀ i s u, P s → exec i s = .next u → Q u := fun i s u hs hu => eq_afterExec hu ▸ ofExec i s hs
  have stays : ∀ s u : State, P s → Host.Outcome.next (φ := Fault) (ρ := Refusal) s = .next u → Q u := by
    intro s u hs hu
    injection hu with hu
    exact hu ▸ weaken s hs
  unfold step at h
  split at h
  · exact next _ _ _ (ofQueue _ _ hs) h
  · unfold tick at h
    split at h
    · split at h
      · exact next _ _ _ (ofInputs _ hs) h
      · have hs' := ofTimers _ hs
        unfold passQuarter at h
        split at h
        · exact stays _ _ (ofQuarter _ ‹_› hs') h
        · split at h
          · exact next _ _ _ hs' h
          · have passed := ofPhase _ (by omega) hs'
            dsimp only at h
            split at h
            · exact next _ _ _ (ofInputs _ passed) h
            · exact stays _ _ passed h
    · exact stays _ _ hs h

/-- The radio's soundness looks at the link controller and the supply monitor alone. -/
theorem State.RadioSound.of_eq {s t : State} (h : s.RadioSound) (hlc : t.lc = s.lc) (hsf : t.sf = s.sf) :
    t.RadioSound := by
  obtain ⟨h1, h2, h3, h4, h5, h6, h7, h8, h9, h10⟩ := h
  constructor <;> simp only [hlc, hsf] <;> assumption

/-- Settles O11: with the radio following the activity every command keeps the store, and time does not touch it. -/
theorem stepKeepsStore : Obligations.StepKeepsStore := by
  intro s t hr hs hf h
  refine storeKept_iff.mp ?_
  have time : ∀ u v : State, u.RadioSound ∧ u.StoreKept → v.lc = u.lc → v.sf = u.sf → v.es = u.es → v.nv = u.nv →
      v.ie = u.ie → v.RadioSound ∧ v.StoreKept := fun u v hu hlc hsf hes hnv hie =>
    ⟨hu.1.of_eq hlc hsf, hu.2.ofNotes hes hnv hie (by rw [hsf])⟩
  refine step_of_exec (fun u => u.RadioSound ∧ u.StoreKept) State.StoreKept (fun _ hu => hu.2)
    (fun i u hu => exec_kept i hu.1 hu.2) ?_ ?_ ?_ ?_ ?_ ⟨hr, storeKept_iff.mpr ⟨hs, hf⟩⟩ h
  · exact fun u q hu => time u _ hu rfl rfl rfl rfl rfl
  · exact fun u hu => time u _ hu rfl rfl rfl rfl rfl
  · exact fun u hu => time u _ hu rfl rfl rfl rfl rfl
  · exact fun u _ hu => time u _ hu rfl rfl rfl rfl rfl
  · exact fun u _ hu => time u _ hu rfl rfl rfl rfl rfl

end Sys2Proof.Machine
end

section
/-! SUPPORT. The transmitter, its slots and its generator through every operation, and the enable line through the supply's
changes (R106, R107, R115 to R118, R171 to R173); with the settled statement beside them. -/

namespace Sys2Proof.Machine

/-- The part of the radio's soundness that holds between an operation on the slots and the serving of them: the line off
goes with an idle transmitter and empty slots, and the transmitter's fields agree with its state. -/
structure LinkBlock.Base (lc : LinkBlock) : Prop where
  off : lc.enable = false → lc.tx = .idle ∧ lc.beaconSlot = none ∧ lc.replySlot = none
  noSense : lc.tx ≠ .sense
  served : lc.served = none ↔ lc.tx = .idle ∨ lc.tx = .wait
  waiting : ∀ slot, lc.tx = .backoff → lc.served = some slot → lc.slotFull slot
  onAir : lc.onAir.isSome = true ↔ lc.tx = .sending
  attempts : lc.attempts ≤ 3
  generator : lc.generator ≠ 0#16

/-- The link controller's part of the radio's soundness. -/
structure LinkBlock.Sound (lc : LinkBlock) : Prop where
  base : lc.Base
  idle : lc.tx = .idle → lc.beaconSlot = none ∧ lc.replySlot = none

/-- The enable line follows the activity and the halt, and a HALTED part is in CRITICAL (R107, R171). -/
structure LineFollows (enable : Bool) (sf : SupplyBlock) : Prop where
  line : enable = true ↔ sf.activity = .running ∧ sf.haltPending = false
  halted : sf.activity = .halted → sf.supply = .critical ∧ sf.haltPending = false

theorem radioSound_iff {s : State} : s.RadioSound ↔ s.lc.Sound ∧ LineFollows s.lc.enable s.sf := by
  constructor
  · rintro ⟨h1, h2, h3, h4, h5, h6, h7, h8, h9, h10⟩
    exact ⟨⟨⟨fun h => ⟨h3 h, h4 (h3 h)⟩, h5, h6, h7, h8, h9, h10⟩, h4⟩, ⟨h1, h2⟩⟩
  · rintro ⟨⟨⟨h3, h5, h6, h7, h8, h9, h10⟩, h4⟩, ⟨h1, h2⟩⟩
    exact ⟨h1, h2, fun h => (h3 h).1, h4, h5, h6, h7, h8, h9, h10⟩

/-- The two link controllers agree in what the radio's soundness looks at. -/
structure SameLink (a b : LinkBlock) : Prop where
  enable : b.enable = a.enable
  tx : b.tx = a.tx
  onAir : b.onAir = a.onAir
  beaconSlot : b.beaconSlot = a.beaconSlot
  replySlot : b.replySlot = a.replySlot
  served : b.served = a.served
  attempts : b.attempts = a.attempts
  generator : b.generator = a.generator

theorem SameLink.refl (a : LinkBlock) : SameLink a a := ⟨rfl, rfl, rfl, rfl, rfl, rfl, rfl, rfl⟩

theorem SameLink.of_eq {a b : LinkBlock} (h : b = a) : SameLink a b := h ▸ .refl a

theorem SameLink.slotFull {a b : LinkBlock} (h : SameLink a b) (slot : Slot) : b.slotFull slot ↔ a.slotFull slot := by
  cases slot <;> simp [LinkBlock.slotFull, h.beaconSlot, h.replySlot]

theorem SameLink.base {a b : LinkBlock} (h : SameLink a b) (ha : a.Base) : b.Base := by
  obtain ⟨h1, h2, h3, h4, h5, h6, h7⟩ := ha
  constructor <;> simp only [h.enable, h.tx, h.onAir, h.beaconSlot, h.replySlot, h.served, h.attempts, h.generator,
    h.slotFull] <;> assumption

theorem SameLink.sound {a b : LinkBlock} (h : SameLink a b) (ha : a.Sound) : b.Sound :=
  ⟨h.base ha.base, by rw [h.tx, h.beaconSlot, h.replySlot]; exact ha.idle⟩

/-! ## The generator -/

/-- A step of the backoff generator keeps it from zero: its mask has the top bit that a shift clears (R117). -/
theorem lfsrStep_ne_zero {v : BitVec 16} (h : v ≠ 0#16) : lfsrStep v ≠ 0#16 := by
  have hv : v.toNat ≠ 0 := fun e => h (BitVec.eq_of_toNat_eq e)
  have hlt := v.isLt
  unfold lfsrStep
  split
  · intro e
    have e' : (v >>> 1).toNat = (0xB400#16).toNat := congrArg BitVec.toNat (BitVec.xor_eq_zero_iff.mp e)
    simp [Nat.shiftRight_one] at e'
    omega
  · rename_i hodd
    intro e
    have e' : (v >>> 1).toNat = (0#16).toNat := congrArg BitVec.toNat e
    simp [Nat.shiftRight_one] at e'
    have : v.toNat = 1 := by omega
    simp [BitVec.getLsbD, this] at hodd

theorem lfsrSeed_ne_zero (serial : Serial) : lfsrSeed serial ≠ 0#16 := by
  unfold lfsrSeed
  split
  · decide
  · assumption

/-! ## The transmitter -/

/-- The transmitter is about to sense for a slot that holds a frame (R116). -/
structure LinkBlock.Senses (lc : LinkBlock) (slot : Slot) : Prop where
  enable : lc.enable = true
  served : lc.served = some slot
  full : lc.slotFull slot
  attempts : lc.attempts ≤ 3
  generator : lc.generator ≠ 0#16

theorem transmitterIdle_base {s : State} (hoff : s.lc.enable = false → s.lc.beaconSlot = none ∧ s.lc.replySlot = none)
    (hg : s.lc.generator ≠ 0#16) : (transmitterIdle s).lc.Base :=
  ⟨fun h => ⟨rfl, hoff h⟩, by simp, by simp, by simp, by simp, by simp, hg⟩

theorem startTransmission_base {slot : Slot} {s : State} (h : s.lc.Senses slot) : (startTransmission s).lc.Base := by
  obtain ⟨he, hs, hf, ha, hg⟩ := h
  cases slot with
  | beacon =>
    obtain ⟨r, hr⟩ := Option.ne_none_iff_exists'.mp hf
    simp only [startTransmission, hs, hr]
    exact ⟨fun h => by simp [he] at h, by simp, by simp, by simp, by simp, ha, hg⟩
  | reply =>
    obtain ⟨r, hr⟩ := Option.ne_none_iff_exists'.mp hf
    simp only [startTransmission, hs, hr]
    exact ⟨fun h => by simp [he] at h, by simp, by simp, by simp, by simp, ha, hg⟩

theorem dropped_link (slot : Slot) (cause : DropCause) (detail : List Byte) (s : State) :
    SameLink s.lc (dropped slot cause detail s).lc := by
  cases slot <;> exact ⟨rfl, rfl, rfl, rfl, rfl, rfl, rfl, rfl⟩

theorem senseBusy_base {slot : Slot} {s : State} (h : s.lc.Senses slot) (hair : s.lc.onAir = none) :
    (senseBusy s).lc.Base := by
  obtain ⟨he, hs, hf, ha, hg⟩ := h
  unfold senseBusy
  dsimp only
  split
  · simp only [hs]
    refine (dropped_link ..).base (transmitterIdle_base (fun h => ?_) ?_)
    · cases slot <;> simp [clearSlot, counting, he] at h
    · cases slot <;> exact hg
  · refine ⟨fun h => by simp [counting, he] at h, by simp, by simp [counting, hs], fun x _ hx => ?_, by simp [counting, hair],
      by simp; omega, lfsrStep_ne_zero hg⟩
    obtain rfl : slot = x := by simpa [counting, hs] using hx
    cases slot <;> exact hf

theorem sense_base (busy : Bool) {slot : Slot} {s : State} (h : s.lc.Senses slot) (hair : s.lc.onAir = none) :
    (sense busy s).lc.Base := by
  unfold sense
  split
  · exact senseBusy_base h hair
  · exact startTransmission_base h

theorem LinkBlock.Base.onAir_none {lc : LinkBlock} (h : lc.Base) (ht : lc.tx ≠ .sending) : lc.onAir = none := by
  cases ha : lc.onAir with
  | none => rfl
  | some a => exact absurd (h.onAir.mp (by simp [ha])) ht

theorem chooseSlot_full {s : State} {slot : Slot} (h : chooseSlot s = some slot) : s.lc.slotFull slot := by
  unfold chooseSlot at h
  split at h
  · simp at h
  · injection h with h; subst h; simp [LinkBlock.slotFull, *]
  · injection h with h; subst h; simp [LinkBlock.slotFull, *]
  · split at h <;> (injection h with h; subst h; simp [LinkBlock.slotFull, *])

theorem chooseSlot_none {s : State} (h : chooseSlot s = none) : s.lc.beaconSlot = none ∧ s.lc.replySlot = none := by
  unfold chooseSlot at h
  split at h
  · exact ⟨‹_›, ‹_›⟩
  · simp at h
  · simp at h
  · split at h <;> simp at h

/-- A transmitter that an idle one becomes by sensing is not idle: its one sense is not the fourth (R116). -/
theorem sense_first_not_idle (busy : Bool) {slot : Slot} {s : State} (h : s.lc.Senses slot) (ha : s.lc.attempts = 0) :
    (sense busy s).lc.tx ≠ .idle := by
  obtain ⟨_, hs, hf, _, _⟩ := h
  unfold sense
  split
  · simp [senseBusy, ha]
  · cases slot <;> obtain ⟨r, hr⟩ := Option.ne_none_iff_exists'.mp hf <;> simp [startTransmission, hs, hr]

/-- Serving the slots leaves nothing waiting beside an idle transmitter (R115). -/
theorem serve_sound (busy : Bool) {s : State} (h : s.lc.Base) : (serve busy s).lc.Sound := by
  unfold serve
  split
  · rename_i hi
    split
    · rename_i slot hc
      have hfull := chooseSlot_full hc
      have he : s.lc.enable = true := by
        by_contra he
        obtain ⟨_, hb, hr⟩ := h.off (by simpa using he)
        cases slot <;> simp [LinkBlock.slotFull, hb, hr] at hfull
      have hs : LinkBlock.Senses { s.lc with tx := .sense, served := some slot, attempts := 0 } slot :=
        ⟨he, rfl, by cases slot <;> exact hfull, by simp, h.generator⟩
      exact ⟨sense_base busy hs (h.onAir_none (by simp [hi])), fun ht => absurd ht (sense_first_not_idle busy hs rfl)⟩
    · exact ⟨h, fun _ => chooseSlot_none ‹_›⟩
  · exact ⟨h, fun hi => absurd hi ‹_›⟩

theorem senseAgain_sound (busy busyNext : Bool) {s : State} (h : s.lc.Base) (ht : s.lc.tx = .backoff) :
    (senseAgain busy busyNext s).lc.Sound := by
  have hserved : s.lc.served ≠ none := fun hn => absurd (h.served.mp hn) (by simp [ht])
  obtain ⟨slot, hs⟩ := Option.ne_none_iff_exists'.mp hserved
  have he : s.lc.enable = true := by
    by_contra he
    have := (h.off (by simpa using he)).1
    simp [ht] at this
  exact serve_sound _ (sense_base busy ⟨he, hs, h.waiting slot ht hs, h.attempts, h.generator⟩
    (h.onAir_none (by simp [ht])))

/-! ## The slots -/

theorem restartAttempts_base (slot : Slot) {s : State} (h : s.lc.Base) : (restartAttempts slot s).lc.Base := by
  unfold restartAttempts
  split
  · exact ⟨h.off, h.noSense, h.served, fun x => by simpa [LinkBlock.slotFull] using h.waiting x, h.onAir, by simp, h.generator⟩
  · exact h

theorem placeReply_sound (r : Reply) (busy : Bool) {s : State} (h : s.lc.Sound) : (placeReply r busy s).lc.Sound := by
  unfold placeReply
  split
  · rename_i he
    have filled : ∀ (u : State) (p : PlacedReply), u.lc.Base → u.lc.enable = true →
        LinkBlock.Base { u.lc with replySlot := some p } := by
      intro u p hu hue
      refine ⟨fun h => by simp [hue] at h, hu.noSense, hu.served, fun x ht hx => ?_, hu.onAir, hu.attempts, hu.generator⟩
      cases x
      · exact hu.waiting .beacon ht hx
      · simp [LinkBlock.slotFull]
    dsimp only
    refine serve_sound busy ?_
    split
    · exact filled _ _ (restartAttempts_base _ ((dropped_link ..).base h.base)) (by simpa using he)
    · exact filled _ _ h.base he
  · exact h

theorem requestBeacon_sound (kind : BeaconKind) (busy : Bool) {s : State} (h : s.lc.Sound) :
    (requestBeacon kind busy s).lc.Sound := by
  unfold requestBeacon
  split
  · rename_i he
    have filled : ∀ (u : State) (p : BeaconRequest), u.lc.Base → u.lc.enable = true →
        LinkBlock.Base { u.lc with beaconSlot := some p } := by
      intro u p hu hue
      refine ⟨fun h => by simp [hue] at h, hu.noSense, hu.served, fun x ht hx => ?_, hu.onAir, hu.attempts, hu.generator⟩
      cases x
      · simp [LinkBlock.slotFull]
      · exact hu.waiting .reply ht hx
    dsimp only
    refine serve_sound busy ?_
    split
    · exact filled _ _ (restartAttempts_base _ ((dropped_link ..).base h.base)) (by simpa using he)
    · exact filled _ _ h.base he
  · exact h

theorem discardBeacon_sound (busy : Bool) {s : State} (h : s.lc.Sound) : (discardBeacon busy s).lc.Sound := by
  unfold discardBeacon
  dsimp only
  split
  · refine serve_sound busy (transmitterIdle_base (fun he => ⟨rfl, ?_⟩) h.base.generator)
    exact (h.base.off he).2.2
  · rename_i hn
    refine ⟨⟨fun he => ?_, h.base.noSense, h.base.served, fun slot ht hs => ?_, h.base.onAir, h.base.attempts,
      h.base.generator⟩, fun hi => ⟨rfl, (h.idle hi).2⟩⟩
    · obtain ⟨ht, _, hr⟩ := h.base.off he
      exact ⟨ht, rfl, hr⟩
    · cases slot
      · exact absurd ⟨hs, ht⟩ hn
      · exact h.base.waiting .reply ht hs

/-! ## Commands that leave the line -/

/-- An operation that keeps the link controller sound, leaves the line and only notes keeps the radio sound. -/
theorem State.RadioSound.ofNotes {s t : State} (h : s.RadioSound) (hl : s.lc.Sound → t.lc.Sound)
    (he : t.lc.enable = s.lc.enable) (hn : NotesOnly s.sf t.sf) : t.RadioSound := by
  obtain ⟨hlc, hline, hhalted⟩ := radioSound_iff.mp h
  obtain ⟨hsupply, hactivity, hpending⟩ := hn.supply
  refine radioSound_iff.mpr ⟨hl hlc, ?_, ?_⟩
  · rw [he, hactivity, hpending]; exact hline
  · rw [hactivity, hsupply, hpending]; exact hhalted

/-- An operation that leaves the transmitter and only notes keeps the radio sound. -/
theorem State.RadioSound.ofLink {s t : State} (h : s.RadioSound) (hl : SameLink s.lc t.lc) (hn : NotesOnly s.sf t.sf) :
    t.RadioSound :=
  h.ofNotes hl.sound hl.enable hn

theorem placeReply_radio (r : Reply) (busy : Bool) {s : State} (h : s.RadioSound) : (placeReply r busy s).RadioSound :=
  h.ofNotes (placeReply_sound r busy) (by simp) (placeReply_notes ..)

theorem requestBeacon_radio (kind : BeaconKind) (busy : Bool) {s : State} (h : s.RadioSound) :
    (requestBeacon kind busy s).RadioSound :=
  h.ofNotes (requestBeacon_sound kind busy) (by simp) (requestBeacon_notes ..)

theorem discardBeacon_radio (busy : Bool) {s : State} (h : s.RadioSound) : (discardBeacon busy s).RadioSound :=
  h.ofNotes (discardBeacon_sound busy) (by simp) (discardBeacon_notes ..)

theorem answer_radio (who : Asker) (status : Status) (payload : List Byte) (busy : Bool) {s : State} (h : s.RadioSound) :
    (answer who status payload busy s).RadioSound :=
  placeReply_radio _ busy h

theorem answerHeld_radio (held : Option Asker) (status : Status) (page : Nat) (payload : List Byte) (busy : Bool)
    {s : State} (h : s.RadioSound) : (answerHeld held status page payload busy s).RadioSound := by
  unfold answerHeld
  split
  · exact placeReply_radio _ busy h
  · exact h

theorem CloseReach.radio {s t : State} (h : CloseReach s t) (hlc : SameLink s.lc t.lc) (hs : s.RadioSound) :
    t.RadioSound :=
  hs.ofLink hlc h.notes

theorem closeInterval_link (p : Bool) (acc : Accumulator) (s : State) : SameLink s.lc (closeInterval p acc s).lc := by
  obtain ⟨c, hc⟩ := closeInterval_lc p acc s
  rw [hc]; exact ⟨rfl, rfl, rfl, rfl, rfl, rfl, rfl, rfl⟩

theorem runDeferred_radio {s : State} (h : s.RadioSound) : (runDeferred s).RadioSound := by
  refine (runDeferred_reach s).radio ?_ h
  unfold runDeferred
  split
  · exact closeInterval_link ..
  · exact .refl _

theorem partialCloseNow_radio {s : State} (h : s.RadioSound) : (partialCloseNow s).RadioSound := by
  refine (partialCloseNow_reach s).radio ?_ h
  unfold partialCloseNow
  split
  · exact closeInterval_link ..
  · exact .refl _

section
variable {s : State} (h : s.RadioSound)
include h

theorem State.RadioSound.ofExposure (ie : ExposureBlock) : ({ s with ie := ie } : State).RadioSound := h.of_eq rfl rfl

theorem State.RadioSound.ofCustody (cu : CustodyBlock) : ({ s with cu := cu } : State).RadioSound := h.of_eq rfl rfl

theorem State.RadioSound.ofConverter (mc : ConverterBlock) : ({ s with mc := mc } : State).RadioSound := h.of_eq rfl rfl

theorem State.RadioSound.ofTimebase (tb : TimebaseBlock) : ({ s with tb := tb } : State).RadioSound := h.of_eq rfl rfl

theorem State.RadioSound.ofAreas (nv : Areas) : ({ s with nv := nv } : State).RadioSound := h.of_eq rfl rfl

end

theorem boundaryToExposure_radio {s : State} (h : s.RadioSound) : (boundaryToExposure s).RadioSound := by
  have passed := (runDeferred_radio h).ofExposure
    { (runDeferred s).ie with old := (runDeferred s).ie.cur, cur := some (Accumulator.empty (runDeferred s).tb.interval) }
  unfold boundaryToExposure
  split
  · dsimp only
    split
    · split
      · exact passed
      · exact runDeferred_radio passed
    · exact passed
  · exact h

theorem deliverToExposure_radio (r : BurstResult) {s : State} (h : s.RadioSound) :
    (deliverToExposure r s).RadioSound := by
  have folded := h.ofExposure { s.ie with old := foldInto r s.ie.old, cur := foldInto r s.ie.cur }
  unfold deliverToExposure
  dsimp only
  split
  · split
    · exact runDeferred_radio folded
    · exact folded
  · exact folded

theorem riseDetect_radio (busy : Bool) (r : BurstResult) {s : State} (h : s.RadioSound) :
    (riseDetect busy r s).RadioSound := by
  have event : ∀ n, (riseEvent busy n s).RadioSound := by
    intro n
    have extended : (extendFast s).RadioSound := h.of_eq (by simp) (by simp)
    have alerted : ({ extendFast s with tb := { (extendFast s).tb with alertInterval := some n } } : State).RadioSound :=
      extended.of_eq rfl rfl
    unfold riseEvent
    dsimp only
    split
    · exact extended
    · exact requestBeacon_radio _ busy alerted
  unfold riseDetect
  split
  · exact h
  · split
    · exact h.of_eq rfl rfl
    · dsimp only
      split
      · exact h
      · split
        · exact (event _).ofTimebase _
        · exact h.ofTimebase _

theorem startBurst_link (s : State) : SameLink s.lc (startBurst s).lc := by
  unfold startBurst
  split
  · dsimp only
    split <;> exact ⟨rfl, rfl, rfl, rfl, rfl, rfl, rfl, rfl⟩
  · exact .refl _

theorem trigger_link (src : Source) (s : State) : SameLink s.lc (trigger src s).lc := by
  unfold trigger
  split
  · exact .refl _
  · exact startBurst_link { s with mc := { s.mc with triggers := s.mc.triggers.union src.only } }

theorem startBurst_radio {s : State} (h : s.RadioSound) : (startBurst s).RadioSound :=
  h.ofLink (startBurst_link s) (by simp [NotesOnly.refl])

theorem trigger_radio (src : Source) {s : State} (h : s.RadioSound) : (trigger src s).RadioSound :=
  h.ofLink (trigger_link src s) (by simp [NotesOnly.refl])

theorem deliver_radio (busy : Bool) (r : BurstResult) {s : State} (h : s.RadioSound) : (deliver busy r s).RadioSound := by
  have credited : (if r.credit then riseDetect busy r (deliverToExposure r s) else s).RadioSound := by
    split
    · exact riseDetect_radio busy r (deliverToExposure_radio r h)
    · exact h
  have released : ∀ u : State, u.RadioSound → ({ u with lc := { u.lc with liveInFlight := none } } : State).RadioSound :=
    fun u hu => hu.ofLink ⟨rfl, rfl, rfl, rfl, rfl, rfl, rfl, rfl⟩ .refl
  unfold deliver
  dsimp only
  split
  · unfold answerLive
    split
    · exact answer_radio _ _ _ _ (released _ credited)
    · exact credited
  · exact credited

theorem completeBurst_radio (busy : Bool) (f : Flight) (codes : List Nat) {s : State} (h : s.RadioSound) :
    (completeBurst busy f codes s).RadioSound := by
  have noted : (noteAll f.start (formResult s.info f codes).2 s).RadioSound :=
    h.ofLink (.of_eq (by simp)) (noteAll_notes ..)
  unfold completeBurst
  dsimp only
  exact startBurst_radio (.ofConverter (deliver_radio busy _ (noted.ofConverter _)) _)

theorem recordLive_radio (who : Asker) {s : State} (h : s.RadioSound) : (recordLive who s).RadioSound := by
  refine h.ofLink ?_ (recordLive_notes ..)
  unfold recordLive
  split
  · exact ⟨rfl, rfl, rfl, rfl, rfl, rfl, rfl, rfl⟩
  · dsimp only
    split
    · exact ⟨rfl, rfl, rfl, rfl, rfl, rfl, rfl, rfl⟩
    · exact ⟨rfl, rfl, rfl, rfl, rfl, rfl, rfl, rfl⟩

theorem abortLive_sound (busy : Bool) {s : State} (h : s.lc.Sound) : (abortLive busy s).lc.Sound := by
  have gone : LinkBlock.Sound { s.lc with liveInFlight := none, liveWaiting := none } :=
    SameLink.sound (a := s.lc) ⟨rfl, rfl, rfl, rfl, rfl, rfl, rfl, rfl⟩ h
  unfold abortLive
  dsimp only
  split
  · exact (dropped_link ..).sound (placeReply_sound _ _ gone)
  · exact placeReply_sound _ _ gone
  · exact placeReply_sound _ _ gone
  · exact h

theorem abortBurst_sound (busy : Bool) {s : State} (h : s.lc.Sound) : (abortBurst busy s).lc.Sound := by
  unfold abortBurst
  dsimp only
  split
  · exact h
  all_goals
    split
    · exact abortLive_sound busy h
    · exact h

theorem abortLive_enable (busy : Bool) (s : State) : (abortLive busy s).lc.enable = s.lc.enable := by
  unfold abortLive
  split <;> simp

theorem abortBurst_enable (busy : Bool) (s : State) : (abortBurst busy s).lc.enable = s.lc.enable := by
  unfold abortBurst
  dsimp only
  split
  · rfl
  all_goals split <;> simp [abortLive_enable]

theorem abortBurst_radio (busy : Bool) {s : State} (h : s.RadioSound) : (abortBurst busy s).RadioSound :=
  h.ofNotes (abortBurst_sound busy) (abortBurst_enable busy s) (abortBurst_notes ..)

theorem enterClosing_radio (who : Asker) (busy : Bool) {s : State} (h : s.RadioSound) :
    (enterClosing who busy s).RadioSound := by
  unfold enterClosing
  exact discardBeacon_radio busy (h.of_eq rfl rfl)

theorem acceptClose_radio (who : Asker) (busy : Bool) {s : State} (h : s.RadioSound) :
    (acceptClose who busy s).RadioSound := by
  have closed := partialCloseNow_radio (runDeferred_radio (abortBurst_radio busy h))
  exact enterClosing_radio who busy closed

theorem State.RadioSound.ofRead {s : State} (h : s.RadioSound) : (clearFaultDetail s).RadioSound :=
  radioSound_iff.mpr ⟨(radioSound_iff.mp h).1, ⟨h.line, h.halted⟩⟩

theorem takeQuery_radio (who : Asker) (page index : Nat) (busy : Bool) {s : State} (h : s.RadioSound) :
    (takeQuery who page index busy s).RadioSound := by
  have custody : ∀ u : State, u.RadioSound → (inCustody who busy s u).RadioSound := by
    intro u hu
    unfold inCustody
    split
    · exact answer_radio _ _ _ _ h
    · exact hu
  have indexed : ∀ page payload, (answerIndexed who page payload busy s).RadioSound := by
    intro page payload
    unfold answerIndexed
    split
    · exact placeReply_radio _ busy h
    · exact answer_radio _ _ _ _ h
  unfold takeQuery
  split
  case h_10 => exact placeReply_radio _ busy h.ofRead
  case h_12 => exact answer_radio _ _ _ _ h
  case h_3 => exact placeReply_radio _ busy h
  case h_9 | h_11 => exact indexed _ _
  case h_1 | h_2 | h_7 => exact custody _ (placeReply_radio _ busy h)
  all_goals exact custody _ (indexed _ _)

theorem offer_radio (r : QueueRecord) {s : State} (h : s.RadioSound) : (offer r s).RadioSound :=
  h.ofLink (.of_eq (by simp)) (offer_notes ..)

theorem dispatchCommand_radio (kind : CommandKind) (who : Asker) (payload : List Byte) (busy : Bool) {s : State}
    (h : s.RadioSound) : (dispatchCommand kind who payload busy s).RadioSound := by
  cases kind with
  | commission =>
    simp only [dispatchCommand, takeCommission]
    split
    · split
      · exact offer_radio _ (h.of_eq rfl rfl)
      · exact answer_radio _ _ _ _ h
    · exact answer_radio _ _ _ _ h
  | handover =>
    simp only [dispatchCommand, takeHandover]
    split
    · split
      · exact answer_radio _ _ _ _ h
      · split
        · refine answer_radio _ _ _ _ ?_
          rcases judgeHandover_frame ‹Leg› (fieldAt payload 0 2) (fieldAt payload 2 2) (fieldAt payload 4 1) who.reader s
            with e | e <;> rw [e]
          · exact h
          · exact offer_radio _ (h.of_eq rfl rfl)
        · exact answer_radio _ _ _ _ h
    · split <;> exact answer_radio _ _ _ _ h
  | query => exact takeQuery_radio _ _ _ _ h
  | live =>
    simp only [dispatchCommand, takeLive]
    split
    · exact answer_radio _ _ _ _ h
    · exact trigger_radio _ (recordLive_radio who h)
  | close =>
    simp only [dispatchCommand, takeClose]
    split
    · exact acceptClose_radio _ _ h
    · split
      · exact placeReply_radio _ busy h
      · exact answer_radio _ _ _ _ h
  | erase =>
    simp only [dispatchCommand, takeErase]
    split
    · exact h.of_eq rfl rfl
    · split <;> exact answer_radio _ _ _ _ h

theorem counting_radio (g : LinkCounters → LinkCounters) {s : State} (h : s.RadioSound) : (counting g s).RadioSound :=
  h.ofLink ⟨rfl, rfl, rfl, rfl, rfl, rfl, rfl, rfl⟩ .refl

theorem examineCommand_radio (kind : CommandKind) (f : CommandFrame) (busy : Bool) {s : State} (h : s.RadioSound) :
    (examineCommand kind f busy s).RadioSound := by
  have taken := counting_radio (fun c => { c with commandsTaken := bump c.commandsTaken }) h
  unfold examineCommand
  dsimp only
  split
  · exact counting_radio _ h
  · split
    · exact answer_radio _ _ _ _ taken
    · split
      · exact dispatchCommand_radio _ _ _ _ taken
      · exact answer_radio _ _ _ _ taken

theorem dispatchBeacon_radio (b : BeaconFrame) (quality : Byte) {s : State} (h : s.RadioSound) :
    (dispatchBeacon b quality s).RadioSound := by
  have taken := counting_radio (fun c => { c with beaconsTaken := bump c.beaconsTaken }) h
  have entered : ∀ u : State, u.RadioSound → (enterBeacon b quality u).RadioSound := by
    intro u hu
    unfold enterBeacon
    split
    · exact hu.of_eq rfl rfl
    · exact hu.ofLink (.of_eq (by simp)) (noteNow_notes ..)
  unfold dispatchBeacon
  split
  · unfold takeBeacon
    split
    · exact taken.ofLink (.of_eq (by simp)) (noteNow_notes ..)
    · dsimp only
      split
      · exact (trigger_radio .alert (entered _ taken)).of_eq (by simp) (by simp)
      · exact entered _ taken
  · exact counting_radio _ h

theorem enterPrecool_radio {s : State} (h : s.RadioSound) : (enterPrecool s).RadioSound := by
  refine h.ofLink ?_ (by simp [NotesOnly.refl])
  simp only [enterPrecool, selectMode_frame]
  exact ⟨rfl, rfl, rfl, rfl, rfl, rfl, rfl, rfl⟩

theorem profileWritten_radio (r : ProfileRecord) (busy : Bool) {s : State} (h : s.RadioSound) :
    (profileWritten r busy s).RadioSound := by
  unfold profileWritten
  exact answerHeld_radio _ _ _ _ _ (.ofCustody (enterPrecool_radio (h.ofAreas _)) _)

theorem profileFailed_radio (busy : Bool) {s : State} (h : s.RadioSound) : (profileFailed busy s).RadioSound := by
  unfold profileFailed
  exact answerHeld_radio _ _ _ _ _ (h.of_eq rfl rfl)

theorem certificateEnds_radio (ok : Bool) (c : Certificate) (busy : Bool) {s : State} (h : s.RadioSound) :
    (certificateEnds ok c busy s).RadioSound := by
  unfold certificateEnds
  exact answerHeld_radio _ _ _ _ _ (h.of_eq rfl rfl)

theorem nextWrite_radio {s : State} (h : s.RadioSound) : (nextWrite s).RadioSound :=
  h.ofLink (.of_eq (by simp)) (nextWrite_notes s)

theorem recordEnds_radio (ok busy : Bool) (r : QueueRecord) {s : State} (h : s.RadioSound) :
    (recordEnds ok busy r s).RadioSound := by
  have noted : (if ok then s else noteNow .storeFail r.datum s).RadioSound := by
    split
    · exact h
    · exact h.ofLink (.of_eq (by simp)) (noteNow_notes ..)
  unfold recordEnds
  revert noted
  generalize (if ok then s else noteNow .storeFail r.datum s) = u
  intro hu
  cases r with
  | profile p =>
    dsimp only
    split
    · exact profileWritten_radio p busy (nextWrite_radio hu)
    · exact profileFailed_radio busy (nextWrite_radio hu)
  | episode e =>
    refine nextWrite_radio (?_ : (if ok then episodeStored e u else foldEpisode e u).RadioSound)
    split
    · exact hu.of_eq rfl rfl
    · exact hu.ofLink (.of_eq (by simp)) (foldEpisode_notes ..)
  | leg l => exact nextWrite_radio (s := legEnds ok l u) (hu.of_eq rfl rfl)
  | checkpoint c => exact nextWrite_radio (s := checkpointEnds ok c u) (hu.of_eq rfl rfl)
  | certificate c => exact certificateEnds_radio ok c busy (nextWrite_radio hu)

/-! ## The transmitter's events -/

theorem backoffEnds_radio (busy busyNext : Bool) {s : State} (h : s.RadioSound) :
    (backoffEnds busy busyNext s).RadioSound := by
  refine h.ofNotes (fun hl => ?_) ?_ (backoffEnds_notes ..)
  all_goals unfold backoffEnds
  · split
    · exact senseAgain_sound busy busyNext hl.base ‹_›
    · exact hl
  · split <;> simp

/-- A transmitter that was at work is idle, with its slots as they were, and then serves them. -/
theorem LinkBlock.Base.freed {s u : State} (h : s.lc.Base) (he : s.lc.tx ≠ .idle) (hu : SameLink s.lc u.lc) :
    (transmitterIdle u).lc.Base := by
  have hon : u.lc.enable ≠ false := fun hoff => he (h.off (hu.enable ▸ hoff)).1
  exact transmitterIdle_base (fun hoff => absurd hoff hon) (hu.generator ▸ h.generator)

theorem transmitCompletes_radio (busy : Bool) {s : State} (h : s.RadioSound) : (transmitCompletes busy s).RadioSound := by
  have counted : SameLink s.lc (countSent s.sendingSlot s).lc := by
    unfold countSent
    split <;> exact ⟨rfl, rfl, rfl, rfl, rfl, rfl, rfl, rfl⟩
  refine h.ofNotes (fun hl => ?_) ?_ (transmitCompletes_notes ..)
  all_goals unfold transmitCompletes
  · split
    · exact serve_sound busy (hl.base.freed (by simp [*]) counted)
    · exact hl
  · split
    · simp [counted.enable]
    · rfl

theorem transmitTimesOut_radio (busy : Bool) {s : State} (h : s.RadioSound) : (transmitTimesOut busy s).RadioSound := by
  refine h.ofNotes (fun hl => ?_) ?_ (transmitTimesOut_notes ..)
  all_goals unfold transmitTimesOut
  · split
    · exact serve_sound busy ((dropped_link ..).base (hl.base.freed (by simp [*]) (.refl _)))
    · exact hl
  · split <;> simp

theorem waitEnds_radio (busy : Bool) {s : State} (h : s.RadioSound) : (waitEnds busy s).RadioSound := by
  refine h.ofNotes (fun hl => ?_) ?_ (waitEnds_notes ..)
  all_goals unfold waitEnds
  · split
    · exact serve_sound busy (hl.base.freed (by simp [*]) (.refl _))
    · exact hl
  · split <;> simp

/-! ## Supply, halt, erase and power -/

theorem radioOn_sound {lc : LinkBlock} (h : lc.Sound) (hi : lc.tx = .idle) : LinkBlock.Sound { lc with enable := true, tx := .wait } := by
  have hserved : lc.served = none := h.base.served.mpr (.inl hi)
  have hair : lc.onAir = none := h.base.onAir_none (by simp [hi])
  exact ⟨⟨by simp, by simp, by simp [hserved], by simp, by simp [hair], h.base.attempts, h.base.generator⟩, by simp⟩

theorem setSupply_radio_of_running {x : Supply} {s : State} (ha : s.sf.activity = .running) (h : s.RadioSound) :
    (setSupply x s).RadioSound := by
  obtain ⟨hlc, hline, _⟩ := radioSound_iff.mp h
  refine radioSound_iff.mpr ⟨by simpa using hlc, ?_, ?_⟩
  · rw [setSupply_sf]; simpa using hline
  · rw [setSupply_sf]; simp [ha]

/-- Outside CRITICAL the part is RUNNING. -/
theorem State.RadioSound.running_of_supply {s : State} (h : s.RadioSound) (hs : s.sf.supply ≠ .critical) :
    s.sf.activity = .running := by
  cases ha : s.sf.activity with
  | running => rfl
  | halted => exact absurd (h.halted ha).1 hs

theorem riseToLow_radio {s : State} (h : s.RadioSound) : (riseToLow s).RadioSound := by
  obtain ⟨hlc, hline, hhalted⟩ := radioSound_iff.mp h
  unfold riseToLow
  dsimp only
  split
  · rename_i ha
    have ha' : s.sf.activity = .halted := by simpa [setSupply_sf] using ha
    obtain ⟨_, hpending⟩ := hhalted ha'
    have hoff : s.lc.enable = false := by
      by_contra he
      simp [(hline.mp (by simpa using he)).1] at ha'
    let u : State := radioOn { setSupply .low s with sf := { (setSupply .low s).sf with activity := .running } }
    have hu : u.RadioSound := by
      refine radioSound_iff.mpr ⟨?_, ?_, ?_⟩
      · have := radioOn_sound hlc (hlc.base.off hoff).1
        simpa [u, radioOn] using this
      · simp [u, setSupply_sf, hpending]
      · simp [u]
    exact State.RadioSound.of_eq (s := startWrites u) (hu.ofLink (.of_eq (by simp)) (startWrites_notes u)) rfl rfl
  · rename_i ha
    refine setSupply_radio_of_running ?_ h
    cases hact : s.sf.activity
    · rfl
    · simp [setSupply_sf, hact] at ha

theorem radioOff_sound {s : State} (h : s.lc.Sound) : (radioOff s).lc.Sound :=
  ⟨transmitterIdle_base (fun _ => ⟨rfl, rfl⟩) h.base.generator, fun _ => ⟨rfl, rfl⟩⟩

theorem runDeferred_link (s : State) : SameLink s.lc (runDeferred s).lc := by
  unfold runDeferred
  split
  · exact closeInterval_link ..
  · exact .refl _

theorem fallToCritical_radio (busy : Bool) {s : State} (h : s.RadioSound) (ha : s.sf.activity = .running) :
    (fallToCritical busy s).RadioSound := by
  have hcritical := setSupply_radio_of_running (x := .critical) ha h
  unfold fallToCritical
  dsimp only
  split
  · exact hcritical
  · obtain ⟨_, hactivity, hpending⟩ := (enterHaltPending_notes busy (setSupply .critical s)).supply
    refine radioSound_iff.mpr ⟨?_, ?_, ?_⟩
    · simp only [enterHaltPending, offerCritical_frame]
      exact radioOff_sound ((runDeferred_link _).sound (abortBurst_sound busy (radioSound_iff.mp hcritical).1))
    · rw [hpending]
      simp [enterHaltPending]
    · rw [hactivity, setSupply_sf]
      simp [ha]

theorem fallToLow_sf (s : State) : ∃ b, NotesOnly { s.sf with supply := .low } b ∧ (fallToLow s).sf = b :=
  ⟨_, (noteNow_notes .supplyLow [] (clearFast { s with sf := { s.sf with supply := .low } })).of_eq (by simp), rfl⟩

theorem fallToLow_radio {s : State} (ha : s.sf.activity = .running) (h : s.RadioSound) :
    (fallToLow s).RadioSound ∧ (fallToLow s).sf.activity = .running := by
  obtain ⟨b, hn, hb⟩ := fallToLow_sf s
  obtain ⟨_, hactivity, hpending⟩ := hn.supply
  obtain ⟨hlc, hline, _⟩ := radioSound_iff.mp h
  rw [← hb] at hactivity hpending
  refine ⟨radioSound_iff.mpr ⟨by simpa using hlc, ?_, ?_⟩, hactivity.trans ha⟩
  · rw [hactivity, hpending]; simpa using hline
  · rw [hactivity]; simp [ha]

theorem supplyFallsCritical_radio (busy : Bool) {s : State} (h : s.RadioSound) :
    (supplyFallsCritical busy s).RadioSound := by
  unfold supplyFallsCritical
  split
  · obtain ⟨hlow, ha⟩ := fallToLow_radio (h.running_of_supply (by simp [*])) h
    exact fallToCritical_radio busy hlow ha
  · exact fallToCritical_radio busy h (h.running_of_supply (by simp [*]))
  · exact h

theorem riseToLow_activity (s : State) : (riseToLow s).sf.activity = .running := by
  unfold riseToLow
  dsimp only
  split
  · simp only [clearCompare, clearRise_frame]
    exact (startWrites_notes _).supply.2.1
  · rename_i ha
    cases hact : (setSupply .low s).sf.activity
    · rfl
    · exact absurd hact ha

theorem supplyRisesGood_radio {s : State} (h : s.RadioSound) : (supplyRisesGood s).RadioSound := by
  unfold supplyRisesGood
  split
  · exact h
  · exact setSupply_radio_of_running (h.running_of_supply (by simp [*])) h
  · exact setSupply_radio_of_running (riseToLow_activity s) (riseToLow_radio h)

theorem halts_radio {s : State} (h : s.RadioSound) : (halts s).RadioSound := by
  obtain ⟨hlc, hline, hhalted⟩ := radioSound_iff.mp h
  unfold halts
  split
  · rename_i hr
    have hpending : s.sf.haltPending = true := by
      simp only [State.haltReady, Bool.and_eq_true] at hr
      exact hr.1.1.1.1
    have hrunning : s.sf.activity = .running := by
      cases ha : s.sf.activity with
      | running => rfl
      | halted => simp [(hhalted ha).2] at hpending
    have hoff : s.lc.enable = false := by
      by_contra he
      simp [(hline.mp (by simpa using he)).2] at hpending
    split
    · rename_i hc
      exact radioSound_iff.mpr ⟨hlc, by simp [noteNow, note, hoff], by simp [noteNow, note, hc]⟩
    · refine radioSound_iff.mpr ⟨?_, ?_, ?_⟩
      · simpa [resume, radioOn] using radioOn_sound hlc (hlc.base.off hoff).1
      · simp [resume, noteNow, note, hrunning]
      · simp [noteNow, note, hrunning]
  · exact h

theorem selectMode_radio {s : State} (h : s.RadioSound) : (selectMode s).RadioSound := h.of_eq (by simp) (by simp)

theorem blankBlocks_radio (busy : Bool) {s : State} (h : s.RadioSound) : (blankBlocks busy s).RadioSound := by
  obtain ⟨hlc, hline, hhalted⟩ := radioSound_iff.mp (discardBeacon_radio busy h)
  exact selectMode_radio (radioSound_iff.mpr
    ⟨SameLink.sound (a := (discardBeacon busy s).lc) ⟨rfl, rfl, rfl, rfl, rfl, rfl, rfl, rfl⟩ hlc, hline, hhalted⟩)

theorem eraseCompletes_radio (busy : Bool) {s : State} (h : s.RadioSound) : (eraseCompletes busy s).RadioSound := by
  unfold eraseCompletes
  split
  · exact answerHeld_radio _ _ _ _ _ (blankBlocks_radio busy h)
  · exact h

theorem LinkBlock.start_sound (serial : Serial) (running : Bool) : (LinkBlock.start serial running).Sound := by
  refine ⟨⟨?_, ?_, ?_, ?_, ?_, ?_, lfsrSeed_ne_zero serial⟩, ?_⟩ <;> cases running <;> simp [LinkBlock.start]

theorem poweredAt_radio (mv : Nat) (s : State) : (poweredAt mv s).RadioSound := by
  refine radioSound_iff.mpr ⟨LinkBlock.start_sound _ _, ?_, ?_⟩
  · simp [poweredAt, LinkBlock.start, SupplyBlock.start]
  · simp only [poweredAt, SupplyBlock.start, supplyAt]
    split
    · simp
    · split <;> simp

theorem examineStore_radio {s : State} (h : s.RadioSound) : (examineStore s).RadioSound := by
  obtain ⟨hlc, hline, hhalted⟩ := radioSound_iff.mp h
  unfold examineStore
  split
  · exact h.ofAreas _
  · split
    · exact h
    · split
      · exact radioSound_iff.mpr ⟨hlc, hline, hhalted⟩
      · rename_i p _ _ _
        have blocks : (restoreBlocks p s).RadioSound :=
          radioSound_iff.mpr
            ⟨SameLink.sound (a := s.lc) ⟨rfl, rfl, rfl, rfl, rfl, rfl, rfl, rfl⟩ hlc, hline, hhalted⟩
        unfold restore
        refine State.RadioSound.ofLink blocks ?_ ?_
        · simp only [startWrites_frame, noteNow_frame]
          split <;> simp [SameLink.refl]
        · refine NotesOnly.trans ?_ ((noteNow_notes ..).trans (startWrites_notes _))
          split
          · exact noteNow_notes ..
          · exact .refl

theorem exec_radio (i : Instr) {s : State} (h : s.RadioSound) : (afterExec i s).RadioSound := by
  apply exec_ind State.RadioSound s h
  case command =>
    intro kind f busy _
    unfold receiveCommand delivered
    split
    · exact examineCommand_radio kind f busy (counting_radio _ h)
    · exact h
  case good => exact fun _ _ => counting_radio _ (counting_radio _ h)
  case bad => exact fun _ _ _ => (counting_radio _ h).ofLink (.of_eq (by simp)) (noteNow_notes ..)
  case beacon => exact fun b q _ _ => dispatchBeacon_radio b q (counting_radio _ h)
  case settling => exact fun _ => h.of_eq (by simp) (by simp)
  case conversion =>
    intro code busy _
    unfold conversionEnds
    split
    · dsimp only
      split
      · exact h.of_eq rfl rfl
      · exact completeBurst_radio _ _ _ h
    all_goals exact h
  case atBoundary =>
    intro _
    unfold boundary
    split
    · exact h.ofTimebase _
    · exact boundaryToExposure_radio (h.ofTimebase _)
  case atCompare =>
    intro _
    have reached : ∀ c, (reachPhase c s).RadioSound := fun c => h.of_eq (by simp) (by simp)
    unfold compareMatches
    split
    · refine State.RadioSound.ofTimebase ?_ _
      split
      · exact trigger_radio _ (reached _)
      · exact reached _
    · exact h
  case due =>
    intro busy _
    have reached : (reachPhase s.tb.beaconOffset s).RadioSound := h.of_eq (by simp) (by simp)
    unfold beaconDue
    dsimp only
    split
    · exact requestBeacon_radio _ busy reached
    · exact reached
  case backoff => exact fun busy next _ => backoffEnds_radio busy next h
  case complete => exact fun busy _ => transmitCompletes_radio busy h
  case timeout => exact fun busy _ => transmitTimesOut_radio busy h
  case wait => exact fun busy _ => waitEnds_radio busy h
  case write =>
    intro v b busy _
    unfold writeEnds
    split
    · split
      · exact recordEnds_radio _ _ _ h
      · exact h
    · exact h
  case handOver => exact fun _ => h.ofLink (.of_eq (by simp)) (handOverClosing_notes s)
  case admitted => exact fun _ => h.ofLink (.of_eq (by simp)) (admitCritical_notes s)
  case erased => exact fun busy _ => eraseCompletes_radio busy h
  case low =>
    intro _
    unfold supplyFallsLow
    split
    · exact (fallToLow_radio (h.running_of_supply (by simp [*])) h).1
    · exact h
  case rises => exact fun _ => supplyRisesGood_radio h
  case critical => exact fun busy _ => supplyFallsCritical_radio busy h
  case recovers =>
    intro _
    unfold supplyRecovers
    split
    · exact riseToLow_radio h
    · exact h
  case ready => exact fun _ => halts_radio h
  case loss =>
    exact fun _ => radioSound_iff.mpr ⟨LinkBlock.start_sound _ _, by simp [withoutPower, LinkBlock.start, SupplyBlock.start],
      by simp [withoutPower, SupplyBlock.start]⟩
  case on => exact fun mv => examineStore_radio (poweredAt_radio mv s)

/-- Settles O8: every command keeps the radio, and time does not touch it. -/
theorem stepKeepsRadio : Obligations.StepKeepsRadio := fun _ _ hs h =>
  step_ind State.RadioSound (fun i _ h => exec_radio i h) (fun _ _ h => h.of_eq rfl rfl) (fun _ h => h.of_eq rfl rfl)
    (fun _ h => h.of_eq rfl rfl) (fun _ _ h => h.ofTimebase _) (fun _ _ h => h.ofTimebase _) hs h

end Sys2Proof.Machine
end

section
/-! SUPPORT. What the write queue's operations can leave in the queue, and when a CRITICAL checkpoint still waits (R125 to
R134). -/

namespace Sys2Proof.Machine

/-- A record in a queue taken up was in it before, or is a checkpoint that took its content (R127, R140). -/
theorem mem_writeHead {x : QueueRecord} {q : List QueueRecord} {s : State} (h : x ∈ (writeHead q s).es.queue) :
    x ∈ q ∨ ∃ c, x = .checkpoint c := by
  induction q generalizing s with
  | nil => simp [writeHead] at h
  | cons r rest ih =>
    cases r with
    | episode e =>
      simp only [writeHead] at h
      split at h
      · rcases ih h with hx | hx
        · exact .inl (List.mem_cons_of_mem _ hx)
        · exact .inr hx
      · exact .inl h
    | checkpoint c =>
      rcases List.mem_cons.mp h with hx | hx
      · exact .inr ⟨_, hx⟩
      · exact .inl (List.mem_cons_of_mem _ hx)
    | profile p => exact .inl h
    | leg l => exact .inl h
    | certificate c => exact .inl h

theorem mem_startWrites {x : QueueRecord} {s : State} (h : x ∈ (startWrites s).es.queue) :
    x ∈ s.es.queue ∨ ∃ c, x = .checkpoint c := by
  unfold startWrites at h
  split at h
  · exact mem_writeHead h
  · exact .inl h

theorem mem_joinQueue {x r : QueueRecord} {s : State} (h : x ∈ (joinQueue r s).es.queue) :
    x ∈ s.es.queue ∨ x = r ∨ ∃ c, x = .checkpoint c := by
  rcases mem_startWrites h with hx | hx
  · rcases List.mem_append.mp hx with hx | hx
    · exact .inl hx
    · exact .inr (.inl (List.mem_singleton.mp hx))
  · exact .inr (.inr hx)

theorem mem_admitCritical {x : QueueRecord} {s : State} (h : x ∈ (admitCritical s).es.queue) :
    x ∈ s.es.queue ∨ ∃ c, x = .checkpoint c := by
  unfold admitCritical at h
  dsimp only at h
  split at h
  · split at h
    · exact .inl h
    · split at h
      · rcases mem_joinQueue h with hx | rfl | hx
        · exact .inl hx
        · exact .inr ⟨_, rfl⟩
        · exact .inr hx
      · exact .inl h
  · exact .inl h

theorem refuseRecord_queue (r : QueueRecord) (s : State) :
    (refuseRecord r s).es.queue = s.es.queue ∧ (refuseRecord r s).es.state = s.es.state := by
  cases r with
  | episode e => exact foldEpisode_queue e _
  | _ => exact ⟨rfl, rfl⟩

/-- A record in the queue after an offer was in it before, is the one offered, or is a checkpoint (R125 to R129). -/
theorem mem_offer {x r : QueueRecord} {s : State} (h : x ∈ (offer r s).es.queue) :
    x ∈ s.es.queue ∨ x = r ∨ ∃ c, x = .checkpoint c := by
  have admitted : x ∈ (admitCritical s).es.queue → x ∈ s.es.queue ∨ x = r ∨ ∃ c, x = .checkpoint c := by
    intro hx
    rcases mem_admitCritical hx with hx | hx
    · exact .inl hx
    · exact .inr (.inr hx)
  unfold offer at h
  dsimp only at h
  split at h
  · exact admitted h
  · split at h
    · rcases mem_joinQueue h with hx | hx
      · exact admitted hx
      · exact .inr hx
    · rw [(refuseRecord_queue r _).1] at h
      exact admitted h

theorem mem_nextWrite {x : QueueRecord} {s : State} (h : x ∈ (nextWrite s).es.queue) :
    x ∈ s.es.queue.tail ∨ ∃ c, x = .checkpoint c := by
  unfold nextWrite at h
  split at h
  · exact mem_writeHead h
  · exact .inl h

/-! ## The CRITICAL checkpoint that waits -/

@[simp] theorem foldEpisode_waiting (e : Episode) (s : State) :
    (foldEpisode e s).es.criticalWaiting = s.es.criticalWaiting := by
  unfold foldEpisode; dsimp only; split <;> simp

@[simp] theorem writeHead_waiting (q : List QueueRecord) (s : State) :
    (writeHead q s).es.criticalWaiting = s.es.criticalWaiting := by
  induction q generalizing s with
  | nil => rfl
  | cons r rest ih =>
    cases r with
    | episode e =>
      simp only [writeHead]; split
      · simp [ih]
      · rfl
    | _ => rfl

@[simp] theorem startWrites_waiting (s : State) : (startWrites s).es.criticalWaiting = s.es.criticalWaiting := by
  unfold startWrites; split <;> simp

@[simp] theorem joinQueue_waiting (r : QueueRecord) (s : State) :
    (joinQueue r s).es.criticalWaiting = s.es.criticalWaiting := by
  simp [joinQueue]

@[simp] theorem refuseRecord_waiting (r : QueueRecord) (s : State) :
    (refuseRecord r s).es.criticalWaiting = s.es.criticalWaiting := by
  cases r <;> simp [refuseRecord]

@[simp] theorem nextWrite_waiting (s : State) : (nextWrite s).es.criticalWaiting = s.es.criticalWaiting := by
  unfold nextWrite; split <;> simp

/-- A CRITICAL checkpoint that still waits waited before (R129). -/
theorem waiting_of_admitCritical {s : State} (h : (admitCritical s).es.criticalWaiting = true) :
    s.es.criticalWaiting = true := by
  unfold admitCritical at h
  split at h <;> assumption

theorem waiting_of_offer {r : QueueRecord} {s : State} (h : (offer r s).es.criticalWaiting = true) :
    s.es.criticalWaiting = true := by
  unfold offer at h
  dsimp only at h
  split at h
  · exact waiting_of_admitCritical h
  · split at h <;> exact waiting_of_admitCritical (by simpa using h)

end Sys2Proof.Machine
end

section
/-! SUPPORT. The custody controller through a close (R9 to R13), and custody with its records, its leg and its accumulators
through every command (R3 to R17, R63, R129, R135); with the settled statements beside them. -/

namespace Sys2Proof.Machine

/-! ## Causes -/

@[simp] theorem Causes.union_self_left (a b : Causes) : a.union (a.union b) = a.union b := by
  simp [Causes.union]

@[simp] theorem Causes.empty_union (a : Causes) : Causes.empty.union a = a := by simp [Causes.union, Causes.empty]

@[simp] theorem Causes.union_self (a : Causes) : a.union a = a := by simp [Causes.union]

theorem Causes.union_assoc (a b c : Causes) : (a.union b).union c = a.union (b.union c) := by
  simp [Causes.union, Bool.or_assoc]

theorem Causes.nonempty_union (a b : Causes) : (a.union b).nonempty = (a.nonempty || b.nonempty) := by
  simp only [Causes.nonempty, Causes.union]
  grind

theorem Causes.nonempty_iff (a : Causes) : a.nonempty = true ↔ a ≠ Causes.empty := by
  obtain ⟨p, w, c, g, r, l⟩ := a
  simp only [Causes.nonempty, Causes.empty, ne_eq, Causes.mk.injEq]
  grind

theorem Causes.empty_of_not_nonempty {a : Causes} (h : ¬ a.nonempty = true) : a = Causes.empty := by
  by_contra hn
  exact h (a.nonempty_iff.mpr hn)

@[simp] theorem Causes.nonempty_empty : Causes.empty.nonempty = false := rfl

/-! ## The custody controller through a close -/

/-- The state, the causes and custody start agree (R3, R4). -/
structure CustodyBlock.Sound (cu : CustodyBlock) : Prop where
  noCause : cu.custody = .blank ∨ cu.custody = .commissioning ∨ cu.custody = .precool
    ∨ cu.custody = .chilled ∨ cu.custody = .excursion → cu.causes = Causes.empty
  broken : cu.custody = .broken → cu.causes.nonempty = true
  started : cu.custody = .chilled ∨ cu.custody = .excursion → cu.custodyStart.isSome = true
  notStarted : cu.custody = .precool → cu.custodyStart = none

/-- How the state moves in service: forward, and out of BROKEN not at all (R9 to R12). -/
def Custody.Advances : Custody → Custody → Prop
  | .precool, c => c.inService = true
  | .chilled, c | .excursion, c => c = .chilled ∨ c = .excursion ∨ c = .broken
  | .broken, c => c = .broken
  | .blank, c => c = .blank
  | .commissioning, c => c = .commissioning
  | .closing, c => c = .closing
  | .closed, c => c = .closed
  | .erasing, c => c = .erasing

/-- The causes grow, and the first of them fix the break interval (R3, R11). -/
structure CausesGrow (a b : CustodyBlock) : Prop where
  causes : a.causes.union b.causes = b.causes
  breakInterval : a.causes.nonempty = true → b.breakInterval = a.breakInterval

/-- How the custody controller moves through closes (R9 to R12). -/
structure CustodyAdvances (a b : CustodyBlock) : Prop where
  custody : a.custody.Advances b.custody
  grow : CausesGrow a b
  commissioned : b.commissioned = a.commissioned
  closing : b.closing = a.closing
  sound : a.Sound → b.Sound

theorem Custody.Advances.refl (c : Custody) : c.Advances c := by
  cases c <;> simp [Custody.Advances, Custody.inService]

theorem Custody.Advances.inService {a b : Custody} (h : a.Advances b) (ha : a.inService = true) : b.inService = true := by
  cases a <;> simp [Custody.Advances, Custody.inService] at h ha ⊢
  · exact h
  · rcases h with rfl | rfl | rfl <;> rfl
  · rcases h with rfl | rfl | rfl <;> rfl
  · subst h; rfl

theorem Custody.Advances.trans {a b c : Custody} (h : a.Advances b) (g : b.Advances c) : a.Advances c := by
  cases a <;> simp only [Custody.Advances] at h
  case precool => exact g.inService h
  case chilled => rcases h with rfl | rfl | rfl <;> simp_all [Custody.Advances]
  case excursion => rcases h with rfl | rfl | rfl <;> simp_all [Custody.Advances]
  all_goals subst h; exact g

theorem CausesGrow.refl (a : CustodyBlock) : CausesGrow a a := ⟨Causes.union_self _, fun _ => rfl⟩

theorem CausesGrow.trans {a b c : CustodyBlock} (h : CausesGrow a b) (g : CausesGrow b c) : CausesGrow a c := by
  refine ⟨?_, fun ha => ?_⟩
  · rw [← g.causes, ← Causes.union_assoc, h.causes]
  · have hb : b.causes.nonempty = true := by rw [← h.causes, Causes.nonempty_union, ha]; rfl
    rw [g.breakInterval hb, h.breakInterval ha]

theorem CustodyAdvances.refl (a : CustodyBlock) : CustodyAdvances a a := ⟨.refl _, .refl _, rfl, rfl, id⟩

theorem CustodyAdvances.of_eq {a b : CustodyBlock} (h : b = a) : CustodyAdvances a b := h ▸ .refl a

theorem CustodyAdvances.trans {a b c : CustodyBlock} (h : CustodyAdvances a b) (g : CustodyAdvances b c) :
    CustodyAdvances a c :=
  ⟨h.custody.trans g.custody, h.grow.trans g.grow, g.commissioned.trans h.commissioned, g.closing.trans h.closing,
    fun ha => g.sound (h.sound ha)⟩

/-- Causes that enter in service join the set, or are the first and break custody (R3, R11). -/
theorem addCauses_advances (new : Causes) (n : Nat) {s : State} (hs : s.cu.custody.inService = true)
    (hb : s.cu.causes.nonempty = true → s.cu.custody = .broken) : CustodyAdvances s.cu (addCauses new n s).cu := by
  unfold addCauses
  split
  · rename_i hnew
    split
    · rename_i hc
      have hbroken := hb hc
      refine ⟨.refl _, ⟨Causes.union_self_left _ _, fun _ => rfl⟩, rfl, rfl, fun h => ⟨?_, ?_, ?_, ?_⟩⟩
      · simp [hbroken]
      · exact fun _ => by rw [Causes.nonempty_union, hc]; rfl
      · exact h.started
      · exact h.notStarted
    · rename_i hc
      have hempty := Causes.empty_of_not_nonempty hc
      simp only [offer_frame]
      refine ⟨?_, ⟨by simp [hempty], fun h => absurd h hc⟩, rfl, rfl, fun h => ⟨by simp, fun _ => hnew, by simp, by simp⟩⟩
      cases hcustody : s.cu.custody <;> simp [hcustody, Custody.Advances, Custody.inService] at hs ⊢
  · exact .refl _

theorem CustodyBlock.Sound.broken_of_causes {cu : CustodyBlock} (h : cu.Sound) (hs : cu.custody.inService = true)
    (hc : cu.causes.nonempty = true) : cu.custody = .broken := by
  have hne := (Causes.nonempty_iff _).mp hc
  cases hcu : cu.custody <;> simp [hcu, Custody.inService] at hs
  · exact absurd (h.noCause (by simp [hcu])) hne
  · exact absurd (h.noCause (by simp [hcu])) hne
  · exact absurd (h.noCause (by simp [hcu])) hne
  · rfl

theorem custodyStage_advances (own : Charges) (found : Causes) (n : Nat) {s : State} (hc : s.cu.custody.charges = true)
    (h : s.cu.Sound) : CustodyAdvances s.cu (custodyStage own found n s).cu := by
  have hs : s.cu.custody.inService = true := by
    cases hcu : s.cu.custody <;> simp [hcu, Custody.charges, Custody.inService] at hc ⊢
  have added := addCauses_advances found n hs (h.broken_of_causes hs)
  unfold custodyStage
  dsimp only
  split
  · exact added
  · rename_i hb
    have hcustody : s.cu.custody = .chilled ∨ s.cu.custody = .excursion := by
      have had := added.custody
      cases hcu : s.cu.custody <;> simp [hcu, Custody.charges, Custody.Advances] at hc had ⊢
      exact hb had
    have hadded : (addCauses found n s).cu.custody = .chilled ∨ (addCauses found n s).cu.custody = .excursion := by
      have had := added.custody
      rcases hcustody with hcu | hcu <;> rw [hcu] at had <;> simp only [Custody.Advances] at had <;> tauto
    have hsound := added.sound h
    have hnow : (if own.warm = 0 ∧ own.cold = 0 then Custody.chilled else .excursion) = .chilled
        ∨ (if own.warm = 0 ∧ own.cold = 0 then Custody.chilled else .excursion) = .excursion := by
      split <;> simp
    refine ⟨?_, ⟨added.grow.causes, added.grow.breakInterval⟩, added.commissioned, added.closing, fun _ => ⟨fun _ => ?_, fun hx => ?_, fun _ => ?_,
      fun hx => ?_⟩⟩
    · rcases hcustody with hcu | hcu <;> rw [hcu] <;> simp only [Custody.Advances] <;> tauto
    · exact hsound.noCause (by tauto)
    · rcases hnow with e | e <;> simp [e] at hx
    · exact hsound.started hadded
    · rcases hnow with e | e <;> simp [e] at hx

theorem precoolStage_advances (p starts : Bool) (n : Nat) {s : State} (hc : s.cu.custody = .precool) (h : s.cu.Sound) :
    CustodyAdvances s.cu (precoolStage p starts n s).cu := by
  unfold precoolStage
  dsimp only
  split
  · exact .refl _
  · split
    · refine ⟨by simp [hc, Custody.Advances, Custody.inService], ⟨Causes.union_self _, fun _ => rfl⟩, rfl, rfl,
        fun _ => ⟨fun _ => h.noCause (by simp [hc]), by simp, by simp, by simp⟩⟩
    · split
      · exact addCauses_advances (s := { s with ie := { s.ie with precoolCount := satAdd 240 s.ie.precoolCount 1 } }) _ _
          (by simp [hc, Custody.inService]) (h.broken_of_causes (by simp [hc, Custody.inService]))
      · exact .refl _

/-- A close in service moves custody forward (R9 to R12). -/
theorem closeInterval_advances (p : Bool) (acc : Accumulator) {s : State} (hs : s.cu.custody.inService = true)
    (h : s.cu.Sound) : CustodyAdvances s.cu (closeInterval p acc s).cu := by
  have before : (afterEpisodes p acc s).cu = s.cu := by simp
  rw [closeInterval_cu]
  unfold afterCustody
  dsimp only
  rw [← before]
  split
  · rename_i hc
    exact custodyStage_advances _ _ _ hc (before ▸ h)
  · rename_i hc
    refine precoolStage_advances _ _ _ ?_ (before ▸ h)
    rw [before] at hc ⊢
    cases hcu : s.cu.custody <;> simp [hcu, Custody.charges, Custody.inService] at hc hs ⊢

/-! ## Custody with its records, its leg and its accumulators -/

theorem State.CustodySound.cuSound {s : State} (h : s.CustodySound) : s.cu.Sound :=
  ⟨h.noCause, h.broken, h.started, h.notStarted⟩

/-- A record that stands in the queue in COMMISSIONING or in CLOSING alone (R5, R14). -/
def QueueRecord.bound : QueueRecord → Prop
  | .profile _ | .certificate _ => True
  | .episode _ | .leg _ | .checkpoint _ => False

/-- No profile record and no certificate record is in the queue. -/
def PlainQueue (q : List QueueRecord) : Prop := ∀ r ∈ q, ¬ r.bound

/-- What custody soundness comes to in service (R4, R63, R129, R135). -/
structure State.ServiceSound (s : State) : Prop where
  inService : s.cu.custody.inService = true
  cu : s.cu.Sound
  leg : s.es.openLeg.isSome = true
  waiting : s.es.criticalWaiting = true → s.sf.haltPending = true
  queue : PlainQueue s.es.queue

theorem State.CustodySound.plainQueue {s : State} (h : s.CustodySound) (hc : s.cu.custody ≠ .commissioning)
    (hg : s.cu.custody ≠ .closing) : PlainQueue s.es.queue := by
  intro r hr hb
  cases r with
  | profile p => exact hc (h.profile p hr)
  | certificate c => exact hg (h.certificate c hr).1
  | _ => exact hb

theorem State.CustodySound.service {s : State} (h : s.CustodySound) (hs : s.cu.custody.inService = true) :
    s.ServiceSound := by
  refine ⟨hs, h.cuSound, h.leg.mpr (.inr hs), fun hw => (h.waiting hw).2, h.plainQueue ?_ ?_⟩ <;>
    rintro hc <;> simp [hc, Custody.inService] at hs

theorem State.ServiceSound.custody {s : State} (h : s.ServiceSound) : s.CustodySound := by
  obtain ⟨hs, ⟨h1, h2, h3, h4⟩, hleg, hwaiting, hq⟩ := h
  refine ⟨h1, h2, h3, h4, by simp [hleg, hs], fun _ => hs, fun hw => ⟨hs, hwaiting hw⟩, fun hc => ?_,
    fun r hr => absurd trivial (hq _ hr), fun hc => ?_, fun c hr => absurd trivial (hq _ hr), fun hc => ?_⟩
  all_goals simp [hc, Custody.inService] at hs

/-- Custody soundness outside service where the queue holds no profile record and no certificate record: in CLOSING with
closing records to hand over, in CLOSED, in ERASING, and in BLANK with an empty queue. -/
structure State.OutOfService (s : State) : Prop where
  custody : s.cu.custody.inService = false
  started : s.cu.custody ≠ .commissioning
  cu : s.cu.Sound
  leg : s.es.openLeg = none
  accumulators : s.ie.cur = none ∧ s.ie.old = none
  waiting : s.es.criticalWaiting = false
  queue : PlainQueue s.es.queue
  blank : s.cu.custody = .blank → s.es.queue = []
  closing : s.cu.custody = .closing → ClosingList s.cu.closing

theorem State.OutOfService.sound {s : State} (h : s.OutOfService) : s.CustodySound := by
  obtain ⟨hs, hc, ⟨h1, h2, h3, h4⟩, hleg, ⟨hcur, hold⟩, hwaiting, hq, hblank, hclosing⟩ := h
  exact ⟨h1, h2, h3, h4, by simp [hleg, hs, hc], by simp [hcur, hold], by simp [hwaiting], hblank,
    fun r hr => absurd trivial (hq _ hr), fun h => absurd h hc, fun c hr => absurd trivial (hq _ hr),
    fun h => .inl (hclosing h)⟩

/-- Outside service no accumulator, no open leg but in COMMISSIONING, and no waiting checkpoint is left. -/
theorem State.CustodySound.idle {s : State} (h : s.CustodySound) (hs : s.cu.custody.inService = false) :
    (s.ie.cur = none ∧ s.ie.old = none) ∧ s.es.criticalWaiting = false
      ∧ (s.cu.custody ≠ .commissioning → s.es.openLeg = none) := by
  refine ⟨⟨?_, ?_⟩, ?_, fun hc => ?_⟩
  · by_contra hn
    simp [h.accumulators (.inl (Option.isSome_iff_ne_none.mpr hn))] at hs
  · by_contra hn
    simp [h.accumulators (.inr (Option.isSome_iff_ne_none.mpr hn))] at hs
  · by_contra hn
    simp [(h.waiting (by simpa using hn)).1] at hs
  · by_contra hn
    rcases h.leg.mp (Option.isSome_iff_ne_none.mpr hn) with he | he
    · exact hc he
    · simp [he] at hs

/-- The two states agree in what custody soundness looks at. -/
structure SameCustody (s t : State) : Prop where
  custody : t.cu.custody = s.cu.custody
  causes : t.cu.causes = s.cu.causes
  started : t.cu.custodyStart = s.cu.custodyStart
  commissioned : t.cu.commissioned = s.cu.commissioned
  closing : t.cu.closing = s.cu.closing
  leg : t.es.openLeg.isSome = s.es.openLeg.isSome
  cur : t.ie.cur.isSome = s.ie.cur.isSome
  old : t.ie.old.isSome = true → s.ie.old.isSome = true
  waiting : t.es.criticalWaiting = true → s.es.criticalWaiting = true
  queue : t.es.queue = s.es.queue
  haltPending : s.sf.haltPending = true → t.sf.haltPending = true

theorem SameCustody.sound {s t : State} (h : SameCustody s t) (hs : s.CustodySound) : t.CustodySound := by
  obtain ⟨h1, h2, h3, h4, h5, h6, h7, h8, h9, h10, h11, h12⟩ := hs
  constructor <;> simp only [h.custody, h.causes, h.started, h.commissioned, h.closing, h.leg, h.cur, h.queue]
  case accumulators => exact fun ha => h6 (ha.imp_right h.old)
  case waiting => exact fun hw => ⟨(h7 (h.waiting hw)).1, h.haltPending (h7 (h.waiting hw)).2⟩
  all_goals assumption

/-- An operation that leaves custody, the exposure engine and the store and only notes keeps custody sound. -/
theorem State.CustodySound.ofNotes {s t : State} (h : s.CustodySound) (hcu : t.cu = s.cu) (hie : t.ie = s.ie)
    (hes : t.es = s.es) (hsf : t.sf.haltPending = s.sf.haltPending) : t.CustodySound := by
  refine SameCustody.sound (s := s) ⟨?_, ?_, ?_, ?_, ?_, ?_, ?_, ?_, ?_, ?_, ?_⟩ h <;> simp [hcu, hie, hes, hsf]

/-! ## Closes -/

theorem CloseReach.plainQueue {s t : State} (h : CloseReach s t) (hq : PlainQueue s.es.queue) : PlainQueue t.es.queue := by
  induction h with
  | refl => exact hq
  | update _ hu ih => rw [hu.queue]; exact ih
  | offered _ hr ih =>
    intro x hx hb
    rcases mem_offer hx with hx | rfl | ⟨c, rfl⟩
    · exact ih x hx hb
    · cases x <;> simp_all [QueueRecord.bound, QueueRecord.ofClose]
    · exact hb

theorem CloseReach.openLeg {s t : State} (h : CloseReach s t) : t.es.openLeg.isSome = s.es.openLeg.isSome := by
  induction h with
  | refl => rfl
  | update _ hu ih => rw [hu.openLeg, ih]
  | offered _ _ ih => simpa using ih

theorem CloseReach.waiting {s t : State} (h : CloseReach s t) (hw : t.es.criticalWaiting = true) :
    s.es.criticalWaiting = true := by
  induction h with
  | refl => exact hw
  | update _ hu ih => exact ih (hu.waiting ▸ hw)
  | offered _ _ ih => exact ih (waiting_of_offer hw)

theorem CloseReach.service {s t : State} (h : CloseReach s t) (hcu : CustodyAdvances s.cu t.cu) (hs : s.ServiceSound) :
    t.ServiceSound :=
  ⟨hcu.custody.inService hs.inService, hcu.sound hs.cu, h.openLeg ▸ hs.leg,
    fun hw => h.notes.supply.2.2 ▸ hs.waiting (h.waiting hw), h.plainQueue hs.queue⟩

theorem runDeferred_advances {s : State} (h : s.CustodySound) : CustodyAdvances s.cu (runDeferred s).cu := by
  unfold runDeferred
  split
  · exact closeInterval_advances false _ (h.accumulators (.inr (by simp [*]))) h.cuSound
  · exact .refl _

theorem partialCloseNow_advances {s : State} (h : s.CustodySound) : CustodyAdvances s.cu (partialCloseNow s).cu := by
  unfold partialCloseNow
  split
  · exact closeInterval_advances true _ (h.accumulators (.inl (by simp [*]))) h.cuSound
  · exact .refl _

theorem State.ServiceSound.ofExposure {s : State} (h : s.ServiceSound) (ie : ExposureBlock) :
    ({ s with ie := ie } : State).ServiceSound :=
  ⟨h.inService, h.cu, h.leg, h.waiting, h.queue⟩

theorem runDeferred_custody {s : State} (h : s.CustodySound) : (runDeferred s).CustodySound := by
  by_cases ho : s.ie.old = none
  · simpa [runDeferred, ho] using h
  · have hs := h.accumulators (.inr (Option.isSome_iff_ne_none.mpr ho))
    exact ((runDeferred_reach s).service (runDeferred_advances h) (h.service hs)).custody

theorem partialCloseNow_custody {s : State} (h : s.CustodySound) : (partialCloseNow s).CustodySound := by
  by_cases ho : s.ie.cur = none
  · simpa [partialCloseNow, ho] using h
  · have hs := h.accumulators (.inl (Option.isSome_iff_ne_none.mpr ho))
    exact ((partialCloseNow_reach s).service (partialCloseNow_advances h) (h.service hs)).custody

/-- The state in which a boundary has opened the new accumulator is sound, and custody has moved forward to it. -/
theorem boundaryToExposure_moves {s : State} (h : s.CustodySound) :
    (boundaryToExposure s).CustodySound ∧ CustodyAdvances s.cu (boundaryToExposure s).cu := by
  unfold boundaryToExposure
  split
  · rename_i hs
    have hadv := runDeferred_advances h
    have passed : ({ runDeferred s with ie := { (runDeferred s).ie with
        old := (runDeferred s).ie.cur, cur := some (Accumulator.empty (runDeferred s).tb.interval) } } : State).CustodySound :=
      (((runDeferred_custody h).service (hadv.custody.inService hs)).ofExposure _).custody
    dsimp only
    split
    · split
      · exact ⟨passed, hadv⟩
      · exact ⟨runDeferred_custody passed, hadv.trans (runDeferred_advances passed)⟩
    · exact ⟨passed, hadv⟩
  · exact ⟨h, .refl _⟩

theorem deliverToExposure_moves (r : BurstResult) {s : State} (h : s.CustodySound) :
    (deliverToExposure r s).CustodySound ∧ CustodyAdvances s.cu (deliverToExposure r s).cu := by
  have folded : ({ s with ie := { s.ie with old := foldInto r s.ie.old, cur := foldInto r s.ie.cur } } : State).CustodySound :=
    SameCustody.sound (s := s) ⟨rfl, rfl, rfl, rfl, rfl, rfl, by simp [foldInto], by simp [foldInto], id, rfl, id⟩ h
  unfold deliverToExposure
  dsimp only
  split
  · split
    · exact ⟨runDeferred_custody folded, runDeferred_advances folded⟩
    · exact ⟨folded, .refl _⟩
  · exact ⟨folded, .refl _⟩

theorem deliver_moves (busy : Bool) (r : BurstResult) {s : State} (h : s.CustodySound) :
    (deliver busy r s).CustodySound ∧ CustodyAdvances s.cu (deliver busy r s).cu := by
  have credited : (if r.credit then riseDetect busy r (deliverToExposure r s) else s).CustodySound
      ∧ CustodyAdvances s.cu (if r.credit then riseDetect busy r (deliverToExposure r s) else s).cu := by
    split
    · obtain ⟨hd, ha⟩ := deliverToExposure_moves r h
      exact ⟨hd.ofNotes (by simp) (by simp) (by simp) (riseDetect_notes ..).supply.2.2, by simpa using ha⟩
    · exact ⟨h, .refl _⟩
  unfold deliver
  dsimp only
  split
  · exact ⟨credited.1.ofNotes (by simp) (by simp) (by simp) (answerLive_notes ..).supply.2.2, by simpa using credited.2⟩
  · exact credited

theorem completeBurst_moves (busy : Bool) (f : Flight) (codes : List Nat) {s : State} (h : s.CustodySound) :
    (completeBurst busy f codes s).CustodySound ∧ CustodyAdvances s.cu (completeBurst busy f codes s).cu := by
  have noted : (noteAll f.start (formResult s.info f codes).2 s).CustodySound :=
    h.ofNotes (by simp) (by simp) (by simp) (noteAll_notes ..).supply.2.2
  obtain ⟨hd, ha⟩ := deliver_moves busy (formResult s.info f codes).1
    (s := { noteAll f.start (formResult s.info f codes).2 s with
      mc := { (noteAll f.start (formResult s.info f codes).2 s).mc with last := some (formResult s.info f codes).1 } })
    (noted.ofNotes rfl rfl rfl rfl)
  unfold completeBurst
  exact ⟨hd.ofNotes (by simp) (by simp) (by simp) (by simp), by simpa using ha⟩

/-! ## The queue taken up -/

/-- A profile record or a certificate record alone in the queue stays alone in it when the queue is taken up. -/
theorem startWrites_single {r : QueueRecord} (hr : r.bound) {s : State} (hq : s.es.queue = [r]) :
    (startWrites s).es.queue = [r] := by
  unfold startWrites
  split
  · cases r <;> simp_all [writeHead, writing, QueueRecord.bound]
  · exact hq

theorem joinQueue_single {r : QueueRecord} (hr : r.bound) {s : State} (hq : s.es.queue = []) :
    (joinQueue r s).es.queue = [r] :=
  startWrites_single hr (by simp [hq])

theorem startWrites_empty {s : State} (hq : s.es.queue = []) : (startWrites s).es.queue = [] := by
  unfold startWrites
  split
  · simp [hq, writeHead]
  · exact hq

/-- With no profile record and no certificate record in the queue, custody stays sound through any change of the queue
that brings none in and leaves an empty queue empty in BLANK. -/
theorem State.CustodySound.ofPlain {s t : State} (h : s.CustodySound) (hq : PlainQueue s.es.queue)
    (hc : s.cu.custody ≠ .commissioning) (hcu : t.cu = s.cu) (hie : t.ie = s.ie)
    (hleg : t.es.openLeg.isSome = s.es.openLeg.isSome)
    (hw : t.es.criticalWaiting = true → s.es.criticalWaiting = true) (hh : t.sf.haltPending = s.sf.haltPending)
    (htq : PlainQueue t.es.queue) (hblank : s.cu.custody = .blank → t.es.queue = []) : t.CustodySound := by
  obtain ⟨h1, h2, h3, h4, h5, h6, h7, h8, h9, h10, h11, h12⟩ := h
  constructor <;> simp only [hcu, hie, hleg, hh]
  case waiting => exact fun hx => h7 (hw hx)
  case profile => exact fun r hr => absurd trivial (htq _ hr)
  case certificate => exact fun c hr => absurd trivial (htq _ hr)
  case commissioning => exact fun hx => absurd hx hc
  case closing =>
    intro hx
    rcases h12 hx with hl | ⟨_, c, hcq⟩
    · exact .inl hl
    · exact absurd trivial (hq (.certificate c) (by simp [hcq]))
  all_goals assumption

/-- What stands in the queue of a sound state: no bound record, or one alone. -/
theorem State.CustodySound.queue_cases {s : State} (h : s.CustodySound) :
    (s.cu.custody ≠ .commissioning ∧ PlainQueue s.es.queue) ∨ ∃ r, r.bound ∧ s.es.queue = [r] := by
  by_cases hc : s.cu.custody = .commissioning
  · obtain ⟨r, hr, _⟩ := h.commissioning hc
    exact .inr ⟨.profile r, trivial, hr⟩
  · by_cases hp : PlainQueue s.es.queue
    · exact .inl ⟨hc, hp⟩
    · simp only [PlainQueue, not_forall, not_not] at hp
      obtain ⟨r, hr, hb⟩ := hp
      cases r with
      | profile p => exact absurd (h.profile p hr) hc
      | certificate c => exact .inr ⟨.certificate c, trivial, (h.certificate c hr).2.2⟩
      | _ => exact absurd hb id

theorem startWrites_custody {s : State} (h : s.CustodySound) : (startWrites s).CustodySound := by
  rcases h.queue_cases with ⟨hc, hq⟩ | ⟨r, hr, hq⟩
  · refine h.ofPlain hq hc (by simp) (by simp) (by simp) (by simp) (startWrites_notes s).supply.2.2 ?_
      fun hb => startWrites_empty (h.blank hb)
    intro x hx hb
    rcases mem_startWrites hx with hx | ⟨c, rfl⟩
    · exact hq x hx hb
    · exact hb
  · refine SameCustody.sound (s := s) ⟨by simp, by simp, by simp, by simp, by simp, by simp, by simp, by simp, by simp,
      (startWrites_single hr hq).trans hq.symm, ?_⟩ h
    rw [(startWrites_notes s).supply.2.2]; exact id

/-- A record that is not bound, offered in service, leaves custody sound. -/
theorem offer_service {r : QueueRecord} (hr : ¬ r.bound) {s : State} (h : s.ServiceSound) : (offer r s).ServiceSound := by
  refine ⟨by simpa using h.inService, by simpa using h.cu, by simpa using h.leg,
    fun hw => (offer_notes r s).supply.2.2 ▸ h.waiting (waiting_of_offer hw), fun x hx hb => ?_⟩
  rcases mem_offer hx with hx | rfl | ⟨c, rfl⟩
  · exact h.queue x hx hb
  · exact hr hb
  · exact hb

theorem admitCritical_custody {s : State} (h : s.CustodySound) : (admitCritical s).CustodySound := by
  by_cases hw : s.es.criticalWaiting = true
  · have hs := h.service (h.waiting hw).1
    refine State.ServiceSound.custody ⟨by simpa using hs.inService, by simpa using hs.cu, by simpa using hs.leg,
      fun hx => (admitCritical_notes s).supply.2.2 ▸ hs.waiting (waiting_of_admitCritical hx), fun x hx hb => ?_⟩
    rcases mem_admitCritical hx with hx | ⟨c, rfl⟩
    · exact hs.queue x hx hb
    · exact hb
  · rw [admitCritical_of_none s (by simpa using hw)]
    exact h

/-! ## The moves of a command -/

/-- How a command moves the custody state along a consignment's life (R5 to R17). -/
def Custody.Moves : Custody → Custody → Prop
  | .blank, c => c = .blank ∨ c = .commissioning
  | .commissioning, c => c = .commissioning ∨ c = .precool ∨ c = .blank
  | .precool, c => c.inService = true ∨ c = .closing
  | .chilled, c | .excursion, c => c = .chilled ∨ c = .excursion ∨ c = .broken ∨ c = .closing
  | .broken, c => c = .broken ∨ c = .closing
  | .closing, c => c = .closing ∨ c = .closed
  | .closed, c => c = .closed ∨ c = .erasing
  | .erasing, c => c = .erasing ∨ c = .blank

/-- How a command moves the custody controller (R3, R5 to R17). -/
structure CustodyStep (a b : CustodyBlock) : Prop where
  custody : a.custody.Moves b.custody
  grow : a.custody ≠ .erasing ∨ b.custody = .erasing → CausesGrow a b

theorem CustodyAdvances.step {a b : CustodyBlock} (h : CustodyAdvances a b) : CustodyStep a b := by
  refine ⟨?_, fun _ => h.grow⟩
  have hc := h.custody
  cases ha : a.custody <;> simp only [ha, Custody.Advances, Custody.Moves] at hc ⊢ <;> tauto

theorem CustodyStep.of_eq {a b : CustodyBlock} (h : b = a) : CustodyStep a b := (CustodyAdvances.of_eq h).step

/-- A change of the custody state alone that is a move. -/
theorem CustodyStep.ofMove {a b : CustodyBlock} (hm : a.custody.Moves b.custody) (hc : b.causes = a.causes)
    (hb : b.breakInterval = a.breakInterval) : CustodyStep a b :=
  ⟨hm, fun _ => ⟨by rw [hc, Causes.union_self], fun _ => hb⟩⟩

/-- What a command does to custody: it keeps it sound and moves it along. -/
structure CustodyCommand (s t : State) : Prop where
  sound : t.CustodySound
  step : CustodyStep s.cu t.cu

theorem State.CustodySound.unmoved {s t : State} (h : s.CustodySound) (hcu : t.cu = s.cu) (hie : t.ie = s.ie)
    (hes : t.es = s.es) (hsf : t.sf.haltPending = s.sf.haltPending) : CustodyCommand s t :=
  ⟨h.ofNotes hcu hie hes hsf, .of_eq hcu⟩

theorem answer_custody (who : Asker) (status : Status) (payload : List Byte) (busy : Bool) {s : State}
    (h : s.CustodySound) : CustodyCommand s (answer who status payload busy s) :=
  h.unmoved (by simp) (by simp) (by simp) (answer_notes ..).supply.2.2

/-- A part in service that has its closes behind it enters CLOSING with its closing records (R13, R14). -/
theorem enterClosing_custody (who : Asker) (busy : Bool) {s : State} (h : s.CustodySound)
    (hacc : s.ie.cur = none ∧ s.ie.old = none) (hs : s.cu.custody.inService = true)
    (hw : s.es.criticalWaiting = false) : (enterClosing who busy s).CustodySound := by
  have hq := (h.service hs).queue
  refine State.OutOfService.sound ⟨?_, ?_, ⟨?_, ?_, ?_, ?_⟩, ?_, ?_, ?_, ?_, ?_, fun _ => ?_⟩
  case refine_12 =>
    simp only [enterClosing, discardBeacon_frame]
    refine ⟨openEpisodesClosed s.tb.interval s
      ++ (s.es.openLeg.map (fun l => ClosingItem.leg { l with finish := some s.tb.interval })).toList ++ [.checkpoint], ?_, ?_⟩
    · simp [closingRecords]
    · simp [openEpisodesClosed]
  all_goals simp [enterClosing, Custody.inService, hacc, hw]
  exact hq

/-- COMMISSION accepted in BLANK (R5). -/
theorem acceptCommission_custody (who : Asker) (r : ProfileRecord) {s : State} (h : s.CustodySound)
    (hb : s.cu.custody = .blank) : CustodyCommand s (acceptCommission who r s) := by
  obtain ⟨⟨hcur, hold⟩, hw, -⟩ := h.idle (by simp [hb, Custody.inService])
  have hempty := h.blank hb
  have hcauses : s.cu.causes = Causes.empty := h.noCause (.inl hb)
  have hjoined : acceptCommission who r s = joinQueue (.profile r)
      { s with
        cu := { s.cu with commissioned := some r, custody := .commissioning, held := some who }
        es := { s.es with openLeg := some (firstLeg r.profile who.reader), legCount := 1 } } :=
    offer_of_room (by simp) hw (by simp [hempty])
  have hq : (acceptCommission who r s).es.queue = [.profile r] := by
    rw [hjoined]
    exact joinQueue_single (r := .profile r) trivial hempty
  have hwait : (acceptCommission who r s).es.criticalWaiting = false := by
    rw [hjoined]
    simpa using hw
  refine ⟨?_, .ofMove ?_ ?_ ?_⟩
  · constructor
    case waiting => simp [hwait]
    case profile => simp [acceptCommission]
    case commissioning => exact fun _ => ⟨r, hq, by simp [acceptCommission]⟩
    case certificate => simp [hq]
    all_goals simp [acceptCommission, hcauses, hcur, hold]
  all_goals simp [acceptCommission, hb, Custody.Moves]

theorem takeCommission_custody (who : Asker) (payload : List Byte) (busy : Bool) {s : State} (h : s.CustodySound) :
    CustodyCommand s (takeCommission who payload busy s) := by
  unfold takeCommission
  split
  · split
    · exact acceptCommission_custody who _ h ‹_›
    · exact answer_custody _ _ _ _ h
  · exact answer_custody _ _ _ _ h

theorem CustodyCommand.answered {s t : State} (h : CustodyCommand s t) (who : Asker) (status : Status)
    (payload : List Byte) (busy : Bool) : CustodyCommand s (answer who status payload busy t) :=
  ⟨(answer_custody who status payload busy h.sound).sound, by simpa using h.step⟩

theorem takeHandover_custody (who : Asker) (payload : List Byte) (busy : Bool) {s : State} (h : s.CustodySound) :
    CustodyCommand s (takeHandover who payload busy s) := by
  unfold takeHandover
  split
  · rename_i hs
    split
    · exact answer_custody _ _ _ _ h
    · split
      · rename_i l hl
        refine CustodyCommand.answered ?_ _ _ _ _
        rcases judgeHandover_frame l (fieldAt payload 0 2) (fieldAt payload 2 2) (fieldAt payload 4 1) who.reader s
          with e | e <;> rw [e]
        · exact ⟨h, .of_eq rfl⟩
        · obtain ⟨_, hcu, _, hw, hq⟩ := h.service hs
          have opened : State.ServiceSound { s with es := { s.es with
              openLeg := some (nextLeg l (fieldAt payload 0 2) (fieldAt payload 2 2) s.tb.interval who.reader)
              legCount := s.es.legCount + 1 } } := ⟨hs, hcu, rfl, hw, hq⟩
          exact ⟨(offer_service (r := .leg { l with finish := some s.tb.interval }) id opened).custody, .of_eq (by simp)⟩
      · exact answer_custody _ _ _ _ h
  · split <;> exact answer_custody _ _ _ _ h

/-! ## CLOSE and ERASE -/

theorem abortBurst_custody (busy : Bool) {s : State} (h : s.CustodySound) : CustodyCommand s (abortBurst busy s) :=
  h.unmoved (by simp) (by simp) (by simp) (abortBurst_notes ..).supply.2.2

theorem partialCloseNow_accumulators {s : State} (h : s.ie.old = none) :
    (partialCloseNow s).ie.cur = none ∧ (partialCloseNow s).ie.old = none := by
  unfold partialCloseNow
  split
  · exact ⟨rfl, (closeInterval_ie true _ s).1.trans h⟩
  · exact ⟨‹_›, h⟩

theorem acceptClose_step (who : Asker) (busy : Bool) {s : State} (h : s.CustodySound) (hs : s.cu.custody.inService = true) :
    CustodyStep s.cu (acceptClose who busy s).cu := by
  have aborted := (abortBurst_custody busy h).sound
  have advanced : CustodyAdvances s.cu (partialCloseNow (runDeferred (abortBurst busy s))).cu := by
    simpa using (runDeferred_advances aborted).trans (partialCloseNow_advances (runDeferred_custody aborted))
  refine ⟨?_, fun _ => ⟨?_, fun hc => ?_⟩⟩
  · have hclosing : (acceptClose who busy s).cu.custody = .closing := by simp [acceptClose, enterClosing]
    rw [hclosing]
    cases hcu : s.cu.custody <;> simp [hcu, Custody.inService, Custody.Moves] at hs ⊢
  · simpa [acceptClose, enterClosing] using advanced.grow.causes
  · simpa [acceptClose, enterClosing] using advanced.grow.breakInterval hc

theorem acceptClose_custody (who : Asker) (busy : Bool) {s : State} (h : s.CustodySound)
    (hs : s.cu.custody.inService = true) (hh : s.sf.haltPending = false) : (acceptClose who busy s).CustodySound := by
  have aborted := (abortBurst_custody busy h).sound
  have deferred := runDeferred_custody aborted
  have closed := partialCloseNow_custody deferred
  have hadv := (runDeferred_advances aborted).trans (partialCloseNow_advances deferred)
  refine enterClosing_custody who busy closed (partialCloseNow_accumulators (runDeferred_old _))
    (hadv.custody.inService (by simpa using hs)) ?_
  by_contra hw
  have hreach := (runDeferred_reach (abortBurst busy s)).trans (partialCloseNow_reach _)
  have hwaits := hreach.waiting (by simpa using hw)
  have hpending := (h.waiting (by simpa using hwaits)).2
  simp [hh] at hpending

theorem startErase_custody (who : Asker) {s : State} (h : s.CustodySound) (hc : s.cu.custody = .closed) :
    CustodyCommand s (startErase who s) := by
  have hs : s.cu.custody.inService = false := by simp [hc, Custody.inService]
  obtain ⟨hacc, hw, hleg⟩ := h.idle hs
  refine ⟨State.OutOfService.sound ⟨rfl, by simp [startErase], ⟨by simp [startErase], by simp [startErase],
    by simp [startErase], by simp [startErase]⟩, hleg (by simp [hc]), hacc, hw,
    h.plainQueue (by simp [hc]) (by simp [hc]), by simp [startErase], by simp [startErase]⟩, .ofMove ?_ rfl rfl⟩
  simp [startErase, hc, Custody.Moves]

/-- A reader command moves custody along, and keeps it sound while no halt is pending. -/
theorem examineCommand_custody (kind : CommandKind) (f : CommandFrame) (busy : Bool) {s : State} (h : s.CustodySound) :
    CustodyStep s.cu (examineCommand kind f busy s).cu
      ∧ (s.sf.haltPending = false → (examineCommand kind f busy s).CustodySound) := by
  have both : ∀ t : State, CustodyCommand s t → CustodyStep s.cu t.cu ∧ (s.sf.haltPending = false → t.CustodySound) :=
    fun t ht => ⟨ht.step, fun _ => ht.sound⟩
  unfold examineCommand
  dsimp only
  split
  · exact both _ (h.unmoved rfl rfl rfl rfl)
  · have taken : (counting (fun c => { c with commandsTaken := bump c.commandsTaken }) s).CustodySound :=
      h.ofNotes rfl rfl rfl rfl
    revert taken both
    have hcu : s.cu = (counting (fun c => { c with commandsTaken := bump c.commandsTaken }) s).cu := rfl
    have hsf : s.sf = (counting (fun c => { c with commandsTaken := bump c.commandsTaken }) s).sf := rfl
    simp only [hcu, hsf]
    generalize counting (fun c => { c with commandsTaken := bump c.commandsTaken }) s = u
    intro both taken
    split
    · exact ⟨(answer_custody _ _ _ _ taken).step, fun _ => (answer_custody _ _ _ _ taken).sound⟩
    · split
      · cases kind with
        | commission => exact ⟨(takeCommission_custody _ _ _ taken).step, fun _ => (takeCommission_custody _ _ _ taken).sound⟩
        | handover => exact ⟨(takeHandover_custody _ _ _ taken).step, fun _ => (takeHandover_custody _ _ _ taken).sound⟩
        | query =>
          have hq := taken.unmoved (t := takeQuery ⟨f.reader, f.seq⟩ (fieldAt f.payload 0 1) (fieldAt f.payload 1 1) busy u)
            (by simp) (by simp) (by simp) (takeQuery_supply ..).2.2
          exact ⟨hq.step, fun _ => hq.sound⟩
        | live =>
          have hl := taken.unmoved (t := takeLive ⟨f.reader, f.seq⟩ busy u) (by simp) (by simp) (by simp)
            (takeLive_notes ..).supply.2.2
          exact ⟨hl.step, fun _ => hl.sound⟩
        | close =>
          simp only [dispatchCommand, takeClose]
          split
          · exact ⟨acceptClose_step _ _ taken ‹_›, acceptClose_custody _ _ taken ‹_›⟩
          · split
            · have hp := taken.unmoved (t := answerPage ⟨f.reader, f.seq⟩ 1 (certificateNow u).pageA busy u) (by simp)
                (by simp) (by simp) (answerPage_notes ..).supply.2.2
              exact ⟨hp.step, fun _ => hp.sound⟩
            · exact ⟨(answer_custody _ _ _ _ taken).step, fun _ => (answer_custody _ _ _ _ taken).sound⟩
        | erase =>
          simp only [dispatchCommand, takeErase]
          split
          · exact ⟨(startErase_custody _ taken ‹_›).step, fun _ => (startErase_custody _ taken ‹_›).sound⟩
          · split <;> exact ⟨(answer_custody _ _ _ _ taken).step, fun _ => (answer_custody _ _ _ _ taken).sound⟩
      · exact ⟨(answer_custody _ _ _ _ taken).step, fun _ => (answer_custody _ _ _ _ taken).sound⟩

/-! ## The end of a write -/

theorem nextWrite_single {s : State} {r : QueueRecord} (hq : s.es.queue = [r]) : (nextWrite s).es.queue = [] := by
  unfold nextWrite
  split <;> simp [hq, writeHead]

theorem profileWritten_custody (p : ProfileRecord) (busy : Bool) {s u : State} (h : s.CustodySound)
    (hc : s.cu.custody = .commissioning) (hleg : u.es.openLeg.isSome = s.es.openLeg.isSome)
    (hw : u.es.criticalWaiting = s.es.criticalWaiting) (hq : u.es.queue = []) :
    CustodyCommand s (profileWritten p busy u) := by
  obtain ⟨_, hwait, -⟩ := h.idle (by simp [hc, Custody.inService])
  have hcauses : s.cu.causes = Causes.empty := h.noCause (.inr (.inl hc))
  refine ⟨State.ServiceSound.custody ⟨?_, ⟨?_, ?_, ?_, ?_⟩, ?_, ?_, ?_⟩, ⟨?_, fun _ => ⟨?_, ?_⟩⟩⟩
  all_goals simp only [profileWritten, answerHeld_frame, enterPrecool, selectMode_frame]
  case refine_6 => exact hleg.trans (h.leg.mpr (.inl hc))
  case refine_7 => simp [hw, hwait]
  case refine_8 => simp [hq, PlainQueue]
  case refine_9 => simp [hc, Custody.Moves]
  all_goals simp [Custody.inService, hcauses]

theorem profileFailed_custody (busy : Bool) {s u : State} (h : s.CustodySound) (hc : s.cu.custody = .commissioning)
    (hu : u.cu = s.cu) (hie : u.ie = s.ie) (hw : u.es.criticalWaiting = s.es.criticalWaiting) (hq : u.es.queue = []) :
    CustodyCommand s (profileFailed busy u) := by
  obtain ⟨hacc, hwait, -⟩ := h.idle (by simp [hc, Custody.inService])
  have hcauses : s.cu.causes = Causes.empty := h.noCause (.inr (.inl hc))
  refine ⟨State.OutOfService.sound ⟨?_, ?_, ⟨?_, ?_, ?_, ?_⟩, ?_, ?_, ?_, ?_, ?_, ?_⟩, .ofMove ?_ ?_ ?_⟩
  all_goals simp only [profileFailed, answerHeld_frame]
  case refine_8 => rw [hie]; exact hacc
  case refine_9 => rw [hw]; exact hwait
  case refine_13 => simp [hc, Custody.Moves]
  all_goals simp [Custody.inService, hu, hcauses, hq, PlainQueue]

theorem certificateEnds_custody (ok : Bool) (c : Certificate) (busy : Bool) {s u : State} (h : s.CustodySound)
    (hc : s.cu.custody = .closing) (hu : u.cu = s.cu) (hie : u.ie = s.ie) (hleg : u.es.openLeg.isSome = s.es.openLeg.isSome)
    (hw : u.es.criticalWaiting = s.es.criticalWaiting) (hq : u.es.queue = []) :
    CustodyCommand s (certificateEnds ok c busy u) := by
  obtain ⟨hacc, hwait, hclosed⟩ := h.idle (by simp [hc, Custody.inService])
  have hnone : u.es.openLeg = none := by simpa [hclosed (by simp [hc])] using hleg
  refine ⟨State.OutOfService.sound ⟨?_, ?_, ⟨?_, ?_, ?_, ?_⟩, ?_, ?_, ?_, ?_, ?_, ?_⟩, .ofMove ?_ ?_ ?_⟩
  all_goals simp only [certificateEnds, answerHeld_frame]
  case refine_7 => exact hnone
  case refine_8 => rw [hie]; exact hacc
  case refine_9 => rw [hw]; exact hwait
  case refine_13 => simp [hc, Custody.Moves]
  all_goals simp [Custody.inService, hu, hq, PlainQueue]

/-- The queue after the end of the write of a record that is not bound, from a sound state. -/
theorem nextWrite_custody {r : QueueRecord} {rest : List QueueRecord} {s u : State} (h : s.CustodySound)
    (hq : s.es.queue = r :: rest) (hr : ¬ r.bound) (hcu : u.cu = s.cu) (hie : u.ie = s.ie)
    (hleg : u.es.openLeg = s.es.openLeg) (hw : u.es.criticalWaiting = s.es.criticalWaiting)
    (hh : u.sf.haltPending = s.sf.haltPending) (huq : u.es.queue = s.es.queue) : CustodyCommand s (nextWrite u) := by
  rcases h.queue_cases with ⟨hc, hp⟩ | ⟨x, hx, hsingle⟩
  · refine ⟨h.ofPlain hp hc (by simpa using hcu) (by simpa using hie) (by simp [hleg]) (by simp [hw])
      ((nextWrite_notes u).supply.2.2.trans hh) ?_ fun hb => ?_, .of_eq (by simpa using hcu)⟩
    · intro y hy hb
      rcases mem_nextWrite hy with hy | ⟨c, rfl⟩
      · exact hp y (huq ▸ List.mem_of_mem_tail hy) hb
      · exact hb
    · simp [h.blank hb] at hq
  · obtain rfl : r = x := by simp [hq] at hsingle; exact hsingle.1
    exact absurd hx hr

theorem writeEnds_custody (v b busy : Bool) {s : State} (h : s.CustodySound) : CustodyCommand s (writeEnds v b busy s) := by
  unfold writeEnds
  split
  · split
    · rename_i r rest hq
      generalize (v && !b) = ok
      have noted : ∃ u, u = (if ok then s else noteNow .storeFail r.datum s) ∧ u.cu = s.cu ∧ u.ie = s.ie ∧ u.es = s.es
          ∧ u.sf.haltPending = s.sf.haltPending := by
        refine ⟨_, rfl, ?_⟩
        split <;> simp [noteNow, note]
      obtain ⟨u, hu, hcu, hie, hes, hh⟩ := noted
      have hmem : r ∈ s.es.queue := by simp [hq]
      unfold recordEnds
      simp only [← hu]
      cases r with
      | profile p =>
        have hc := h.profile p hmem
        have hsingle : u.es.queue = [.profile p] := by
          obtain ⟨p', hp', _⟩ := h.commissioning hc
          rw [hp'] at hq
          rw [hes, hp', (List.cons.inj hq).1]
        dsimp only
        split
        · exact profileWritten_custody p busy h hc (by simp [hes]) (by simp [hes]) (nextWrite_single hsingle)
        · exact profileFailed_custody busy h hc (by simpa using hcu) (by simpa using hie) (by simp [hes])
            (nextWrite_single hsingle)
      | certificate c =>
        obtain ⟨hc, _, hsingle⟩ := h.certificate c hmem
        exact certificateEnds_custody ok c busy h hc (by simpa using hcu) (by simpa using hie) (by simp [hes]) (by simp [hes])
          (nextWrite_single (by rw [hes]; exact hsingle))
      | episode e =>
        have hf := foldEpisode_queue e u
        dsimp only
        split
        · exact nextWrite_custody h hq id hcu hie (by simp [episodeStored, hes]) (by simp [episodeStored, hes])
            (by simpa [episodeStored] using hh) (by simp [episodeStored, hes])
        · exact nextWrite_custody h hq id (by simpa using hcu) (by simpa using hie) (by simp [hes]) (by simp [hes])
            ((foldEpisode_notes e u).supply.2.2.trans hh) (hf.1.trans (by rw [hes]))
      | leg l => exact nextWrite_custody h hq id hcu hie (by simp [hes]) (by simp [hes]) (by simpa using hh) (by simp [hes])
      | checkpoint c =>
        exact nextWrite_custody h hq id hcu hie (by simp [checkpointEnds, hes]) (by simp [checkpointEnds, hes])
          (by simpa using hh) (by simp [checkpointEnds, hes])
    · exact ⟨h, .of_eq rfl⟩
  · exact ⟨h, .of_eq rfl⟩

/-! ## The closing records -/

/-- The closing list without its first record: the certificate was the last, and the rest goes on (R14). -/
theorem ClosingList.tail {item : ClosingItem} {rest : List ClosingItem} (h : ClosingList (item :: rest)) :
    (item = .certificate ∧ rest = []) ∨ (item ≠ .certificate ∧ ClosingList rest) := by
  obtain ⟨front, hf, hn⟩ := h
  cases front with
  | nil => simp at hf; exact .inl hf
  | cons x xs =>
    simp only [List.cons_append, List.cons.injEq] at hf
    obtain ⟨rfl, rfl⟩ := hf
    simp only [List.mem_cons, not_or] at hn
    exact .inr ⟨fun he => hn.1 he.symm, xs, rfl, hn.2⟩

/-- A closing record but the certificate is handed over (R14). -/
theorem handOver_record {r : QueueRecord} (hr : ¬ r.bound) {rest : List ClosingItem} {s : State} (h : s.CustodySound)
    (hc : s.cu.custody = .closing) (hq : PlainQueue s.es.queue) (hrest : ClosingList rest) :
    CustodyCommand s (offer r { s with cu := { s.cu with closing := rest } }) := by
  obtain ⟨hacc, hw, hleg⟩ := h.idle (by simp [hc, Custody.inService])
  have hwait : (offer r { s with cu := { s.cu with closing := rest } }).es.criticalWaiting = false := by
    by_contra hx
    have := waiting_of_offer (by simpa using hx)
    simp [hw] at this
  refine ⟨State.OutOfService.sound ⟨by simp [hc, Custody.inService], by simp [hc], ?_, ?_, ?_, hwait, fun x hx hb => ?_,
    by simp [hc], by simp [hrest]⟩, .ofMove ?_ ?_ ?_⟩
  · obtain ⟨h1, h2, h3, h4⟩ := h.cuSound
    exact ⟨by simpa using h1, by simpa using h2, by simpa using h3, by simpa using h4⟩
  · simpa using hleg (by simp [hc])
  · simpa using hacc
  · rcases mem_offer hx with hx | rfl | ⟨c, rfl⟩
    · exact hq x hx hb
    · exact hr hb
    · exact hb
  all_goals simp [hc, Custody.Moves]

/-- The certificate record is handed over to an empty queue, and stands alone in it (R14, R165). -/
theorem handOver_certificate (c : Certificate) {s : State} (h : s.CustodySound) (hc : s.cu.custody = .closing)
    (hq : s.es.queue = []) :
    CustodyCommand s (offer (.certificate c) { s with cu := { s.cu with closing := [], certificate := some c } }) := by
  obtain ⟨⟨hcur, hold⟩, hw, hleg⟩ := h.idle (by simp [hc, Custody.inService])
  have hnone := hleg (by simp [hc])
  have hjoined : offer (.certificate c) { s with cu := { s.cu with closing := [], certificate := some c } }
      = joinQueue (.certificate c) { s with cu := { s.cu with closing := [], certificate := some c } } :=
    offer_of_room (by simp) hw (by simp [hq])
  rw [hjoined]
  have hsingle : (joinQueue (.certificate c) { s with cu := { s.cu with closing := [], certificate := some c } }).es.queue
      = [.certificate c] := joinQueue_single (r := .certificate c) trivial hq
  refine ⟨?_, .ofMove ?_ ?_ ?_⟩
  · constructor
    case certificate =>
      intro c' hx
      rw [hsingle] at hx ⊢
      obtain rfl : c' = c := by simpa using hx
      exact ⟨by simp [hc], by simp, rfl⟩
    case closing => exact fun _ => .inr ⟨by simp, c, hsingle⟩
    case profile => simp [hsingle]
    all_goals simp [hc, hcur, hold, hw, hnone, Custody.inService]
  all_goals simp [hc, Custody.Moves]

theorem handOverClosing_custody {s : State} (h : s.CustodySound) : CustodyCommand s (handOverClosing s) := by
  unfold handOverClosing
  split
  · rename_i hready
    simp only [State.closingReady, Bool.and_eq_true, decide_eq_true_eq] at hready
    obtain ⟨hc, hroom⟩ := hready
    split
    · exact ⟨h, .of_eq rfl⟩
    · rename_i item rest hitems
      have hlist : ClosingList (item :: rest) := by
        rcases h.closing hc with hl | ⟨he, _⟩
        · rwa [hitems] at hl
        · simp [hitems] at he
      have hplain : PlainQueue s.es.queue := by
        intro r hr hb
        cases r with
        | profile p => have := h.profile p hr; simp [hc] at this
        | certificate c => have := (h.certificate c hr).2.1; simp [hitems] at this
        | _ => exact hb
      rcases hlist.tail with ⟨rfl, rfl⟩ | ⟨hne, hrest⟩
      · refine handOver_certificate _ h hc ?_
        simpa [hitems] using hroom
      · cases item with
        | certificate => exact absurd rfl hne
        | episode e => exact handOver_record id h hc hplain hrest
        | leg l => exact handOver_record id h hc hplain hrest
        | checkpoint => exact handOver_record id h hc hplain hrest
  · exact ⟨h, .of_eq rfl⟩

/-! ## Supply -/

theorem setSupply_custody (x : Supply) {s : State} (h : s.CustodySound) : (setSupply x s).CustodySound :=
  h.ofNotes (by simp) (by simp) (by simp) (by simp [setSupply_sf])

theorem riseToLow_custody {s : State} (h : s.CustodySound) : (riseToLow s).CustodySound := by
  unfold riseToLow
  dsimp only
  split
  · have on : (radioOn { setSupply .low s with sf := { (setSupply .low s).sf with activity := .running } }).CustodySound :=
      (setSupply_custody .low h).ofNotes rfl rfl rfl rfl
    exact (startWrites_custody on).ofNotes rfl rfl rfl rfl
  · exact setSupply_custody .low h

theorem offerCritical_custody {s : State} (h : s.CustodySound) (hh : s.sf.haltPending = true) :
    (offerCritical s).CustodySound := by
  unfold offerCritical
  split
  · rename_i hs
    obtain ⟨_, hcu, hleg, _, hq⟩ := h.service hs
    exact admitCritical_custody (State.ServiceSound.custody ⟨hs, hcu, hleg, fun _ => hh, hq⟩)
  · exact h

theorem fallToCritical_custody (busy : Bool) {s : State} (h : s.CustodySound) :
    CustodyCommand s (fallToCritical busy s) := by
  have hcritical := setSupply_custody .critical h
  unfold fallToCritical
  dsimp only
  split
  · exact ⟨hcritical, .of_eq (by simp)⟩
  · have pending : ({ setSupply .critical s with
        sf := { (setSupply .critical s).sf with haltPending := true } } : State).CustodySound :=
      SameCustody.sound (s := setSupply .critical s) ⟨rfl, rfl, rfl, rfl, rfl, rfl, rfl, id, id, rfl, fun _ => rfl⟩ hcritical
    have aborted := abortBurst_custody busy pending
    have hpending := ((abortBurst_notes busy { setSupply .critical s with
      sf := { (setSupply .critical s).sf with haltPending := true } }).trans (runDeferred_notes _)).supply.2.2
    refine ⟨offerCritical_custody (State.CustodySound.ofNotes (runDeferred_custody aborted.sound) rfl rfl rfl rfl) hpending, ?_⟩
    have hadv := runDeferred_advances aborted.sound
    simpa [enterHaltPending] using hadv.step

theorem supplyFallsCritical_custody (busy : Bool) {s : State} (h : s.CustodySound) :
    CustodyCommand s (supplyFallsCritical busy s) := by
  unfold supplyFallsCritical
  split
  · have low : (fallToLow s).CustodySound := h.ofNotes (by simp) (by simp) (by simp) (by simp [fallToLow, noteNow, note])
    obtain ⟨hsound, hstep⟩ := fallToCritical_custody busy low
    exact ⟨hsound, by simpa using hstep⟩
  · exact fallToCritical_custody busy h
  · exact ⟨h, .of_eq rfl⟩

/-- With no checkpoint waiting, custody soundness does not look at the supply monitor. -/
theorem State.CustodySound.ofSupply {s : State} (h : s.CustodySound) (hw : s.es.criticalWaiting = false)
    (sf : SupplyBlock) : ({ s with sf := sf } : State).CustodySound := by
  obtain ⟨h1, h2, h3, h4, h5, h6, h7, h8, h9, h10, h11, h12⟩ := h
  exact ⟨h1, h2, h3, h4, h5, h6, fun hx => by simp [hw] at hx, h8, h9, h10, h11, h12⟩

theorem halts_custody {s : State} (h : s.CustodySound) : (halts s).CustodySound := by
  unfold halts
  split
  · rename_i hr
    have hw : s.es.criticalWaiting = false := by
      simp only [State.haltReady, Bool.and_eq_true, Bool.not_eq_true'] at hr
      exact hr.1.1.1.2
    split
    · exact (h.ofSupply hw _).ofNotes rfl rfl rfl rfl
    · exact (h.ofSupply hw _).ofNotes rfl rfl rfl rfl
  · exact h

/-! ## Erase and power -/

theorem blank_custody {s : State} (hcu : s.cu = CustodyBlock.blank) (hie : s.ie = ExposureBlock.blank)
    (hes : s.es = StoreBlock.blank) : s.CustodySound := by
  refine State.OutOfService.sound ⟨?_, ?_, ⟨?_, ?_, ?_, ?_⟩, ?_, ?_, ?_, ?_, ?_, ?_⟩ <;>
    simp [hcu, hie, hes, CustodyBlock.blank, ExposureBlock.blank, StoreBlock.blank, Custody.inService, PlainQueue]

theorem blankBlocks_blank (busy : Bool) (s : State) :
    (blankBlocks busy s).cu = CustodyBlock.blank ∧ (blankBlocks busy s).ie = ExposureBlock.blank
      ∧ (blankBlocks busy s).es = StoreBlock.blank := by
  simp [blankBlocks]

theorem eraseCompletes_custody (busy : Bool) {s : State} (h : s.CustodySound) :
    CustodyCommand s (eraseCompletes busy s) := by
  unfold eraseCompletes
  split
  · rename_i hc
    obtain ⟨hcu, hie, hes⟩ := blankBlocks_blank busy s
    refine ⟨(blank_custody hcu hie hes).ofNotes (by simp) (by simp) (by simp) (answerHeld_notes ..).supply.2.2, ?_, ?_⟩
    all_goals simp [hcu, hc, CustodyBlock.blank, Custody.Moves]
  · exact ⟨h, .of_eq rfl⟩

theorem comeUpClosed_custody (p : ProfileRecord) (c : Certificate) (s : State) : (comeUpClosed p c s).CustodySound := by
  refine State.OutOfService.sound ⟨?_, ?_, ⟨?_, ?_, ?_, ?_⟩, ?_, ?_, ?_, ?_, ?_, ?_⟩ <;>
    simp [comeUpClosed, startTimebase, ExposureBlock.blank, StoreBlock.blank, Custody.inService, PlainQueue]

theorem restoreBlocks_service (p : ProfileRecord) (s : State) : (restoreBlocks p s).ServiceSound := by
  refine ⟨rfl, ⟨?_, fun _ => ?_, ?_, ?_⟩, rfl, ?_, fun r hr => ?_⟩
  case refine_2 =>
    show (Causes.union _ Causes.powerLossOnly).nonempty = true
    rw [Causes.nonempty_union]
    simp [Causes.nonempty, Causes.powerLossOnly]
  case refine_6 =>
    simp only [restoreBlocks, startTimebase, List.mem_cons] at hr
    rcases hr with rfl | hr
    · exact id
    · split at hr
      · simp at hr
      · simp only [List.mem_cons, List.not_mem_nil, or_false] at hr
        subst hr; exact id
  all_goals simp [restoreBlocks, startTimebase, StoreBlock.blank]

theorem examineStore_custody {s : State} (h : s.CustodySound) : (examineStore s).CustodySound := by
  unfold examineStore
  split
  · exact h.ofNotes rfl rfl rfl rfl
  · split
    · exact h
    · split
      · exact comeUpClosed_custody ..
      · rename_i p _ _ _
        have blocks := (restoreBlocks_service p s).custody
        have noted : (if s.nv.used.isNone then noteNow .checkpointBad [4] (restoreBlocks p s) else restoreBlocks p s).CustodySound := by
          split
          · exact blocks.ofNotes rfl rfl rfl rfl
          · exact blocks
        exact startWrites_custody (noted.ofNotes rfl rfl rfl rfl)

/-! ## Every command -/

/-- What a command but a loss of retention memory and a power-on does to custody: it moves it along, and keeps it sound
where no frame reaches a part with its halt pending. -/
theorem exec_custody {i : Instr} {s : State} (h : s.CustodySound) (hl : i ≠ .retentionLoss) (hp : ∀ mv, i ≠ .powerOn mv) :
    CustodyStep s.cu (afterExec i s).cu
      ∧ ((s.hears = true → s.sf.haltPending = false) → (afterExec i s).CustodySound) := by
  have both : ∀ t : State, CustodyCommand s t →
      CustodyStep s.cu t.cu ∧ ((s.hears = true → s.sf.haltPending = false) → t.CustodySound) :=
    fun t ht => ⟨ht.step, fun _ => ht.sound⟩
  apply exec_ind_powered (fun t => CustodyStep s.cu t.cu ∧ ((s.hears = true → s.sf.haltPending = false) → t.CustodySound))
    (both _ ⟨h, .of_eq rfl⟩)
  case hl => exact hl
  case hp => exact hp
  case command =>
    intro kind f busy
    unfold receiveCommand delivered
    split
    · rename_i hh
      have counted : (countGood s).CustodySound := h.ofNotes (by simp) (by simp) (by simp) (by simp)
      obtain ⟨hstep, hsound⟩ := examineCommand_custody kind f busy counted
      exact ⟨by simpa using hstep, fun hn => hsound (by simpa using hn hh)⟩
    · exact both _ ⟨h, .of_eq rfl⟩
  case good => exact fun _ => both _ (h.unmoved rfl rfl rfl rfl)
  case bad => exact fun _ _ => both _ (h.unmoved rfl rfl rfl rfl)
  case beacon =>
    exact fun b q _ => both _ (h.unmoved (by simp) (by simp) (by simp) ((dispatchBeacon_notes b q _).supply.2.2.trans (by simp)))
  case settling => exact both _ (h.unmoved (by simp) (by simp) (by simp) (by simp))
  case conversion =>
    intro code busy
    unfold conversionEnds
    split
    · dsimp only
      split
      · exact both _ (h.unmoved rfl rfl rfl rfl)
      · obtain ⟨hsound, hadv⟩ := completeBurst_moves busy _ _ h
        exact both _ ⟨hsound, hadv.step⟩
    all_goals exact both _ ⟨h, .of_eq rfl⟩
  case atBoundary =>
    have steps : (boundarySteps s).CustodySound := h.ofNotes rfl rfl rfl rfl
    unfold boundary
    split
    · exact both _ ⟨steps, .of_eq rfl⟩
    · obtain ⟨hsound, hadv⟩ := boundaryToExposure_moves steps
      exact both _ ⟨hsound, hadv.step⟩
  case atCompare => exact both _ (h.unmoved (by simp) (by simp) (by simp) (by simp))
  case due => exact fun busy => both _ (h.unmoved (by simp) (by simp) (by simp) (beaconDue_notes busy s).supply.2.2)
  case backoff => exact fun a b => both _ (h.unmoved (by simp) (by simp) (by simp) (backoffEnds_notes a b s).supply.2.2)
  case complete => exact fun a => both _ (h.unmoved (by simp) (by simp) (by simp) (transmitCompletes_notes a s).supply.2.2)
  case timeout => exact fun a => both _ (h.unmoved (by simp) (by simp) (by simp) (transmitTimesOut_notes a s).supply.2.2)
  case wait => exact fun a => both _ (h.unmoved (by simp) (by simp) (by simp) (waitEnds_notes a s).supply.2.2)
  case write => exact fun v b busy => both _ (writeEnds_custody v b busy h)
  case handOver => exact both _ (handOverClosing_custody h)
  case admitted => exact both _ ⟨admitCritical_custody h, .of_eq (by simp)⟩
  case erased => exact fun busy _ => both _ (eraseCompletes_custody busy h)
  case low =>
    refine both _ (h.unmoved (by simp) (by simp) (by simp) ?_)
    unfold supplyFallsLow
    split
    · simp [fallToLow, noteNow, note]
    · rfl
  case rises =>
    unfold supplyRisesGood
    split
    · exact both _ ⟨h, .of_eq rfl⟩
    · exact both _ ⟨setSupply_custody .good h, .of_eq (by simp)⟩
    · exact both _ ⟨setSupply_custody .good (riseToLow_custody h), .of_eq (by simp)⟩
  case critical => exact fun busy => both _ (supplyFallsCritical_custody busy h)
  case recovers =>
    unfold supplyRecovers
    split
    · exact both _ ⟨riseToLow_custody h, .of_eq (by simp)⟩
    · exact both _ ⟨h, .of_eq rfl⟩
  case ready => exact both _ ⟨halts_custody h, .of_eq (by simp)⟩

theorem State.RadioSound.notPending_of_hears {s : State} (h : s.RadioSound) (hh : s.hears = true) :
    s.sf.haltPending = false := by
  simp only [State.hears, Bool.and_eq_true] at hh
  exact (h.line.mp hh.1.1).2

theorem exec_custodySound (i : Instr) {s : State} (hr : s.RadioSound) (h : s.CustodySound) :
    (afterExec i s).CustodySound := by
  by_cases hl : i = .retentionLoss
  · subst hl
    show (if s.powered then withoutPower s else s).CustodySound
    split
    · exact blank_custody rfl rfl rfl
    · exact h
  by_cases hp : ∃ mv, i = .powerOn mv
  · obtain ⟨mv, rfl⟩ := hp
    exact examineStore_custody (s := poweredAt mv s) (blank_custody rfl rfl rfl)
  · exact (exec_custody h hl fun mv hmv => hp ⟨mv, hmv⟩).2 hr.notPending_of_hears

/-- Settles O10: with the line following the halt, every command keeps custody sound, and time does not touch it. -/
theorem stepKeepsCustody : Obligations.StepKeepsCustody := by
  intro s t hr _ hs h
  have time : ∀ u v : State, u.RadioSound ∧ u.CustodySound → v.lc = u.lc → v.sf = u.sf → v.cu = u.cu → v.es = u.es →
      v.ie = u.ie → v.RadioSound ∧ v.CustodySound := fun u v hu hlc hsf hcu hes hie =>
    ⟨hu.1.of_eq hlc hsf, hu.2.ofNotes hcu hie hes (by rw [hsf])⟩
  refine step_of_exec (fun u => u.RadioSound ∧ u.CustodySound) State.CustodySound (fun _ hu => hu.2)
    (fun i u hu => exec_custodySound i hu.1 hu.2) ?_ ?_ ?_ ?_ ?_ ⟨hr, hs⟩ h
  · exact fun u q hu => time u _ hu rfl rfl rfl rfl rfl
  · exact fun u hu => time u _ hu rfl rfl rfl rfl rfl
  · exact fun u hu => time u _ hu rfl rfl rfl rfl rfl
  · exact fun u _ hu => time u _ hu rfl rfl rfl rfl rfl
  · exact fun u _ hu => time u _ hu rfl rfl rfl rfl rfl

/-- Settles O15: the moves of every command are the statement's, state by state. -/
theorem custodyMoves : Obligations.CustodyMoves := by
  intro i s t hs hl hp h
  rw [eq_afterExec h]
  obtain ⟨hmove, hgrow⟩ := (exec_custody hs hl hp).1
  refine ⟨?_, fun hc => ⟨(hgrow hc).causes, (hgrow hc).breakInterval⟩⟩
  cases hcu : s.cu.custody <;> simpa [hcu, Custody.Moves] using hmove

end Sys2Proof.Machine
end

section
/-! SUPPORT. The timebase through every command: the mode of R49's table, the compare and its buffer, the ranges of R44, and
the captures with what they come from (R44 to R60, R140, R176); with the settled statement beside them. -/

namespace Sys2Proof.Machine

/-! ## The schedule -/

/-- The schedule's soundness looks at the timebase and the supply alone. -/
theorem State.ScheduleSound.of_eq {s t : State} (h : s.ScheduleSound) (htb : t.tb = s.tb)
    (hsupply : t.sf.supply = s.sf.supply) : t.ScheduleSound := by
  obtain ⟨h1, h2, h3, h4, h5, h6, h7, h8⟩ := h
  constructor <;> simp only [htb, hsupply] <;> assumption

theorem State.ScheduleSound.ofNotes {s t : State} (h : s.ScheduleSound) (htb : t.tb = s.tb) (hn : NotesOnly s.sf t.sf) :
    t.ScheduleSound :=
  h.of_eq htb hn.supply.1

/-- The schedule's soundness but for the mode: the buffer holds the period of the mode in force, and the values are in
their ranges. -/
structure TimebaseBlock.InRange (tb : TimebaseBlock) : Prop where
  buffer : tb.buffer = tb.mode.period
  period : tb.period = 10000 ∨ tb.period = 30000 ∨ tb.period = 60000
  interval : tb.interval ≤ 16777215
  phase : tb.phase ≤ 59999
  quarter : tb.quarter ≤ 3
  compare : ∀ c, tb.compare = some c → c ≤ 59999
  offset : 5000 ≤ tb.beaconOffset ∧ tb.beaconOffset ≤ 54999

theorem State.ScheduleSound.inRange {s : State} (h : s.ScheduleSound) : s.tb.InRange :=
  ⟨h.buffer, h.period, h.interval, h.phase, h.quarter, h.compare, h.offset⟩

theorem Mode.period_cases (m : Mode) : m.period = 10000 ∨ m.period = 30000 ∨ m.period = 60000 := by
  cases m <;> simp [Mode.period]

theorem beaconOffsetOf_range (serial : Serial) (n : Nat) :
    5000 ≤ beaconOffsetOf serial n ∧ beaconOffsetOf serial n ≤ 54999 := by
  unfold beaconOffsetOf
  omega

/-- A mode selection makes the schedule sound, whatever the mode in force (R49, R51). -/
theorem selectMode_schedule {s : State} (h : s.tb.InRange) : (selectMode s).ScheduleSound := by
  obtain ⟨h1, h2, h3, h4, h5, h6, h7⟩ := h
  unfold selectMode
  dsimp only
  split
  · rename_i hm
    exact ⟨hm.symm, h1, h2, h3, h4, h5, h6, h7⟩
  · exact ⟨rfl, rfl, h2, h3, h4, h5, h6, h7⟩

theorem extendFast_schedule {s : State} (h : s.ScheduleSound) : (extendFast s).ScheduleSound := by
  unfold extendFast
  split
  · exact selectMode_schedule ⟨h.buffer, h.period, h.interval, h.phase, h.quarter, h.compare, h.offset⟩
  · exact h

theorem clearFast_schedule {s : State} (h : s.tb.InRange) : (clearFast s).ScheduleSound :=
  selectMode_schedule ⟨h.buffer, h.period, h.interval, h.phase, h.quarter, h.compare, h.offset⟩

theorem setSupply_schedule (x : Supply) {s : State} (h : s.ScheduleSound) : (setSupply x s).ScheduleSound :=
  selectMode_schedule h.inRange

theorem clearRise_schedule {s : State} (h : s.ScheduleSound) : (clearRise s).ScheduleSound :=
  ⟨h.mode, h.buffer, h.period, h.interval, h.phase, h.quarter, h.compare, h.offset⟩

theorem clearCompare_schedule {s : State} (h : s.ScheduleSound) : (clearCompare s).ScheduleSound :=
  ⟨h.mode, h.buffer, h.period, h.interval, h.phase, h.quarter, by simp, h.offset⟩

theorem reachPhase_schedule {p : Nat} (hp : p ≤ 59999) {s : State} (h : s.ScheduleSound) : (reachPhase p s).ScheduleSound := by
  unfold reachPhase
  split
  · exact ⟨h.mode, h.buffer, h.period, h.interval, hp, by simp, h.compare, h.offset⟩
  · exact h

theorem advanceCompare_schedule (c : Nat) {s : State} (h : s.ScheduleSound) : (advanceCompare c s).ScheduleSound := by
  refine ⟨h.mode, h.buffer, ?_, h.interval, h.phase, h.quarter, ?_, h.offset⟩
  · simp only [advanceCompare, h.buffer]
    exact Mode.period_cases _
  · intro c' hc
    simp only [advanceCompare] at hc
    split at hc
    · simp at hc
    · simp at hc; omega

theorem nextInterval_le (c : Custody) {n : Nat} (h : n ≤ 16777215) : nextInterval c n ≤ 16777215 := by
  unfold nextInterval satAdd max24
  split <;> omega

theorem boundarySteps_schedule {s : State} (h : s.ScheduleSound) : (boundarySteps s).ScheduleSound :=
  ⟨rfl, rfl, Mode.period_cases _, nextInterval_le _ h.interval, by simp [boundarySteps], by simp [boundarySteps],
    by simp [boundarySteps], beaconOffsetOf_range _ _⟩

theorem compareMatches_schedule {s : State} (h : s.ScheduleSound) : (compareMatches s).ScheduleSound := by
  unfold compareMatches
  split
  · rename_i c hc
    have reached := reachPhase_schedule (h.compare c hc) h
    refine advanceCompare_schedule c ?_
    split
    · exact reached.of_eq (by simp) (by simp)
    · exact reached
  · exact h

/-- The start of the timebase at power-on is sound for a supply and an interval number in range (R60). -/
theorem start_schedule {s : State} {serial : Serial} {n f : Nat} (hn : n ≤ 16777215)
    (htb : s.tb = TimebaseBlock.start serial n f (modeFor s.sf.supply n f)) : s.ScheduleSound := by
  constructor <;> rw [htb]
  case period => exact Mode.period_cases _
  case interval => exact hn
  case offset => exact beaconOffsetOf_range _ _
  all_goals simp [TimebaseBlock.start]

theorem riseEvent_schedule (busy : Bool) (n : Nat) {s : State} (h : s.ScheduleSound) : (riseEvent busy n s).ScheduleSound := by
  have extended := extendFast_schedule h
  unfold riseEvent
  dsimp only
  split
  · exact extended
  · refine State.ScheduleSound.ofNotes (s := { extendFast s with tb := { (extendFast s).tb with alertInterval := some n } }) ?_
      (by simp) (requestBeacon_notes ..)
    exact ⟨extended.mode, extended.buffer, extended.period, extended.interval, extended.phase, extended.quarter,
      extended.compare, extended.offset⟩

/-- A change of the rise detector's captures leaves the schedule sound. -/
theorem State.ScheduleSound.ofRise {s : State} (h : s.ScheduleSound) (ref buffer : Option RisePoint) :
    ({ s with tb := { s.tb with riseRef := ref, riseBuffer := buffer } } : State).ScheduleSound :=
  ⟨h.mode, h.buffer, h.period, h.interval, h.phase, h.quarter, h.compare, h.offset⟩

theorem riseDetect_schedule (busy : Bool) (r : BurstResult) {s : State} (h : s.ScheduleSound) :
    (riseDetect busy r s).ScheduleSound := by
  unfold riseDetect
  split
  · exact h
  · split
    · exact h.ofRise _ _
    · dsimp only
      split
      · exact h
      · refine State.ScheduleSound.ofRise ?_ _ _
        split
        · exact riseEvent_schedule _ _ h
        · exact h

theorem CloseReach.tb {s t : State} (h : CloseReach s t) : t.tb = s.tb := by
  induction h with
  | refl => rfl
  | update _ hu ih => rw [hu.tb, ih]
  | offered _ _ ih => simpa using ih

theorem deliver_schedule (busy : Bool) (r : BurstResult) {s : State} (h : s.ScheduleSound) :
    (deliver busy r s).ScheduleSound := by
  have credited : (if r.credit then riseDetect busy r (deliverToExposure r s) else s).ScheduleSound := by
    split
    · have reach := deliverToExposure_reach r s
      exact riseDetect_schedule busy r (h.ofNotes reach.tb reach.notes)
    · exact h
  unfold deliver
  dsimp only
  split
  · exact credited.ofNotes (by simp) (answerLive_notes ..)
  · exact credited

theorem State.ScheduleSound.ofConverter {s : State} (h : s.ScheduleSound) (mc : ConverterBlock) :
    ({ s with mc := mc } : State).ScheduleSound :=
  h.of_eq rfl rfl

theorem startBurst_schedule {s : State} (h : s.ScheduleSound) : (startBurst s).ScheduleSound :=
  h.of_eq (by simp) (by simp)

theorem completeBurst_schedule (busy : Bool) (f : Flight) (codes : List Nat) {s : State} (h : s.ScheduleSound) :
    (completeBurst busy f codes s).ScheduleSound := by
  have noted : (noteAll f.start (formResult s.info f codes).2 s).ScheduleSound := h.ofNotes (by simp) (noteAll_notes ..)
  unfold completeBurst
  exact startBurst_schedule ((deliver_schedule busy _ (noted.ofConverter _)).ofConverter _)

theorem takeBeacon_schedule (b : BeaconFrame) (quality : Byte) {s : State} (h : s.ScheduleSound) :
    (takeBeacon b quality s).ScheduleSound := by
  have entered : (enterBeacon b quality s).ScheduleSound := h.ofNotes (by simp) (enterBeacon_notes ..)
  unfold takeBeacon
  split
  · exact h.ofNotes (by simp) (noteNow_notes ..)
  · dsimp only
    split
    · exact extendFast_schedule (entered.of_eq (by simp) (by simp))
    · exact entered

theorem enterPrecool_schedule {s : State} (h : s.ScheduleSound) : (enterPrecool s).ScheduleSound :=
  selectMode_schedule ⟨h.buffer, h.period, by simp, by simp, by simp, by simp, beaconOffsetOf_range _ _⟩

theorem State.ScheduleSound.ofStore {s : State} (h : s.ScheduleSound) (nv : Areas) (es : StoreBlock) :
    ({ s with nv := nv, es := es } : State).ScheduleSound :=
  h.of_eq rfl rfl

theorem profileWritten_schedule (p : ProfileRecord) (busy : Bool) {s : State} (h : s.ScheduleSound) :
    (profileWritten p busy s).ScheduleSound := by
  have entered := enterPrecool_schedule (h.ofStore { s.nv with profile := some p } s.es)
  unfold profileWritten
  exact (entered.of_eq (t := { enterPrecool { s with nv := { s.nv with profile := some p } } with
    cu := { (enterPrecool { s with nv := { s.nv with profile := some p } }).cu with held := none } }) rfl rfl).ofNotes
    (by simp) (answerHeld_notes ..)

theorem nextWrite_schedule {s : State} (h : s.ScheduleSound) : (nextWrite s).ScheduleSound :=
  h.ofNotes (by simp) (nextWrite_notes s)

theorem recordEnds_schedule (ok busy : Bool) (r : QueueRecord) {s : State} (h : s.ScheduleSound) :
    (recordEnds ok busy r s).ScheduleSound := by
  have noted : (if ok then s else noteNow .storeFail r.datum s).ScheduleSound := by
    split
    · exact h
    · exact h.ofNotes (by simp) (noteNow_notes ..)
  unfold recordEnds
  revert noted
  generalize (if ok then s else noteNow .storeFail r.datum s) = u
  intro hu
  cases r with
  | profile p =>
    dsimp only
    split
    · exact profileWritten_schedule p busy (nextWrite_schedule hu)
    · exact (nextWrite_schedule hu).ofNotes (by simp) (profileFailed_notes ..)
  | episode e =>
    refine nextWrite_schedule (?_ : (if ok then episodeStored e u else foldEpisode e u).ScheduleSound)
    split
    · exact hu.ofStore _ _
    · exact hu.ofNotes (by simp) (foldEpisode_notes ..)
  | leg l => exact nextWrite_schedule (hu.ofStore _ u.es)
  | checkpoint c => exact nextWrite_schedule (hu.ofStore _ _)
  | certificate c => exact (nextWrite_schedule hu).ofNotes (by simp) (certificateEnds_notes ..)

theorem fallToLow_schedule {s : State} (h : s.ScheduleSound) : (fallToLow s).ScheduleSound :=
  State.ScheduleSound.ofNotes (s := clearFast { s with sf := { s.sf with supply := .low } })
    (clearFast_schedule h.inRange) (by simp [fallToLow]) (noteNow_notes ..)

theorem riseToLow_schedule {s : State} (h : s.ScheduleSound) : (riseToLow s).ScheduleSound := by
  have low := setSupply_schedule .low h
  unfold riseToLow
  dsimp only
  split
  · refine clearCompare_schedule (clearRise_schedule ?_)
    refine State.ScheduleSound.ofNotes (s := radioOn { setSupply .low s with
      sf := { (setSupply .low s).sf with activity := .running } }) (low.of_eq rfl rfl) (by simp) (startWrites_notes _)
  · exact low

theorem fallToCritical_schedule (busy : Bool) {s : State} (h : s.ScheduleSound) : (fallToCritical busy s).ScheduleSound := by
  have critical := setSupply_schedule .critical h
  unfold fallToCritical
  dsimp only
  split
  · exact critical
  · exact critical.of_eq (by simp) (enterHaltPending_notes ..).supply.1

theorem blankBlocks_schedule (busy : Bool) {s : State} (h : s.ScheduleSound) : (blankBlocks busy s).ScheduleSound := by
  have htb : (discardBeacon busy s).tb = s.tb := by simp
  exact selectMode_schedule (s := { discardBeacon busy s with
      cu := CustodyBlock.blank
      mc := ConverterBlock.blank
      tb := { (discardBeacon busy s).tb with
        interval := 0, fastUntil := 0, riseRef := none, riseBuffer := none, alertInterval := none }
      ie := ExposureBlock.blank
      nt := emptyTable
      lc := { (discardBeacon busy s).lc with
        content := none, sequence := 0, liveInFlight := none, liveWaiting := none, counters := LinkCounters.zero }
      es := StoreBlock.blank
      nv := Areas.empty
      sf := { (discardBeacon busy s).sf with sticky := 0, context := none, multiple := false, unread := 0 } })
    ⟨by simpa [htb] using h.buffer, by simpa [htb] using h.period, by simp, by simpa [htb] using h.phase,
      by simpa [htb] using h.quarter, by simpa [htb] using h.compare, by simpa [htb] using h.offset⟩

theorem intervalAfter_le (found : List Nat) : intervalAfter found ≤ 16777215 := by
  unfold intervalAfter satAdd max24
  omega

theorem startTimebase_schedule {n f : Nat} (hn : n ≤ 16777215) (s : State) : (startTimebase n f s).ScheduleSound :=
  start_schedule hn rfl

theorem examineStore_schedule {s : State} (h : s.ScheduleSound) : (examineStore s).ScheduleSound := by
  unfold examineStore
  split
  · exact h.of_eq rfl rfl
  · split
    · exact h
    · split
      · exact startTimebase_schedule (intervalAfter_le _) _
      · rename_i p _ _ _
        have blocks : (restoreBlocks p s).ScheduleSound := startTimebase_schedule (intervalAfter_le _) _
        unfold restore
        refine State.ScheduleSound.ofNotes ?_ (by simp) (startWrites_notes _)
        refine State.ScheduleSound.ofNotes ?_ (by simp) (noteNow_notes ..)
        split
        · exact blocks.ofNotes (by simp) (noteNow_notes ..)
        · exact blocks

/-- No reader command touches the supply, the activity or the halt (R110). -/
theorem examineCommand_supply (kind : CommandKind) (f : CommandFrame) (busy : Bool) (s : State) :
    (examineCommand kind f busy s).sf.supply = s.sf.supply ∧
    (examineCommand kind f busy s).sf.activity = s.sf.activity ∧
    (examineCommand kind f busy s).sf.haltPending = s.sf.haltPending := by
  unfold examineCommand
  dsimp only
  split
  · exact ⟨rfl, rfl, rfl⟩
  · split
    · exact (answer_notes _ _ _ _ (counting _ s)).supply
    · split
      · cases kind with
        | commission => exact (takeCommission_notes _ _ _ (counting _ s)).supply
        | handover => exact (takeHandover_notes _ _ _ (counting _ s)).supply
        | query => exact takeQuery_supply _ _ _ _ (counting _ s)
        | live => exact (takeLive_notes _ _ (counting _ s)).supply
        | close => exact (takeClose_notes _ _ (counting _ s)).supply
        | erase => exact (takeErase_notes _ _ (counting _ s)).supply
      · exact (answer_notes _ _ _ _ (counting _ s)).supply

theorem receiveCommand_schedule (kind : CommandKind) (f : CommandFrame) (busy : Bool) {s : State} (h : s.ScheduleSound) :
    (receiveCommand kind f busy s).ScheduleSound := by
  unfold receiveCommand delivered
  split
  · exact h.of_eq (by simp) (examineCommand_supply kind f busy (countGood s)).1
  · exact h

theorem eraseCompletes_schedule (busy : Bool) {s : State} (h : s.ScheduleSound) : (eraseCompletes busy s).ScheduleSound := by
  unfold eraseCompletes
  split
  · exact (blankBlocks_schedule busy h).ofNotes (by simp) (answerHeld_notes ..)
  · exact h

theorem halts_schedule {s : State} (h : s.ScheduleSound) : (halts s).ScheduleSound := by
  unfold halts
  split
  · split
    · exact (h.of_eq (t := { s with sf := { s.sf with activity := .halted, haltPending := false } }) rfl rfl).ofNotes
        (by simp) (noteNow_notes ..)
    · have noted : (noteNow .supplyCritical [0] s).ScheduleSound := h.ofNotes (by simp) (noteNow_notes ..)
      exact clearRise_schedule (noted.of_eq (t := radioOn { noteNow .supplyCritical [0] s with
        sf := { (noteNow .supplyCritical [0] s).sf with haltPending := false } }) (by simp) (by simp))
  · exact h

theorem withoutPower_schedule (s : State) : (withoutPower s).ScheduleSound := start_schedule (Nat.zero_le _) rfl

theorem poweredAt_schedule (mv : Nat) (s : State) : (poweredAt mv s).ScheduleSound := start_schedule (Nat.zero_le _) rfl

/-- Every command keeps the schedule sound. -/
theorem exec_schedule (i : Instr) {s : State} (h : s.ScheduleSound) : (afterExec i s).ScheduleSound := by
  apply exec_ind State.ScheduleSound s h
  case command => exact fun kind f busy _ => receiveCommand_schedule kind f busy h
  case good => exact fun _ _ => h.of_eq (by simp) (by simp)
  case bad => exact fun _ _ _ => h.ofNotes (by simp) (noteNow_notes _ _ (counting _ s))
  case beacon =>
    intro b q _ _
    unfold dispatchBeacon
    split
    · exact takeBeacon_schedule b q (h.of_eq rfl rfl)
    · exact h.of_eq rfl rfl
  case settling => exact fun _ => h.of_eq (by simp) (by simp)
  case conversion =>
    intro code busy _
    unfold conversionEnds
    split
    · dsimp only
      split
      · exact h.of_eq rfl rfl
      · exact completeBurst_schedule _ _ _ h
    all_goals exact h
  case atBoundary =>
    intro _
    have stepped := boundarySteps_schedule h
    unfold boundary
    split
    · exact stepped
    · exact stepped.ofNotes (boundaryToExposure_reach _).tb (boundaryToExposure_reach _).notes
  case atCompare => exact fun _ => compareMatches_schedule h
  case due =>
    intro busy _
    have reached := reachPhase_schedule (p := s.tb.beaconOffset) (by have := h.offset; omega) h
    unfold beaconDue
    dsimp only
    split
    · exact reached.ofNotes (by simp) (requestBeacon_notes ..)
    · exact reached
  case backoff => exact fun busy next _ => h.ofNotes (by simp) (backoffEnds_notes ..)
  case complete => exact fun busy _ => h.ofNotes (by simp) (transmitCompletes_notes ..)
  case timeout => exact fun busy _ => h.ofNotes (by simp) (transmitTimesOut_notes ..)
  case wait => exact fun busy _ => h.ofNotes (by simp) (waitEnds_notes ..)
  case write =>
    intro v b busy _
    unfold writeEnds
    split
    · split
      · exact recordEnds_schedule _ _ _ h
      · exact h
    · exact h
  case handOver => exact fun _ => h.ofNotes (by simp) (handOverClosing_notes s)
  case admitted => exact fun _ => h.ofNotes (by simp) (admitCritical_notes s)
  case erased => exact fun busy _ => eraseCompletes_schedule busy h
  case low =>
    intro _
    unfold supplyFallsLow
    split
    · exact fallToLow_schedule h
    · exact h
  case rises =>
    intro _
    unfold supplyRisesGood
    split
    · exact h
    · exact setSupply_schedule _ h
    · exact setSupply_schedule _ (riseToLow_schedule h)
  case critical =>
    intro busy _
    unfold supplyFallsCritical
    split
    · exact fallToCritical_schedule busy (fallToLow_schedule h)
    · exact fallToCritical_schedule busy h
    · exact h
  case recovers =>
    intro _
    unfold supplyRecovers
    split
    · exact riseToLow_schedule h
    · exact h
  case ready => exact fun _ => halts_schedule h
  case loss => exact fun _ => withoutPower_schedule s
  case on => exact fun mv => examineStore_schedule (poweredAt_schedule mv s)

theorem State.ScheduleSound.ofQuarter {s : State} (h : s.ScheduleSound) (hq : s.tb.quarter < 3) :
    ({ s with tb := { s.tb with quarter := s.tb.quarter + 1 } } : State).ScheduleSound :=
  ⟨h.mode, h.buffer, h.period, h.interval, h.phase, by simp only; omega, h.compare, h.offset⟩

theorem State.ScheduleSound.ofPhase {s : State} (h : s.ScheduleSound) (hp : s.tb.phase < 59999) :
    ({ s with tb := { s.tb with phase := s.tb.phase + 1, quarter := 0 } } : State).ScheduleSound :=
  ⟨h.mode, h.buffer, h.period, h.interval, by simp only; omega, by simp, h.compare, h.offset⟩

theorem step_schedule {s t : State} (h : s.ScheduleSound) (hs : step s = .next t) : t.ScheduleSound :=
  step_ind State.ScheduleSound (fun i _ h => exec_schedule i h) (fun _ _ h => h.of_eq rfl rfl) (fun _ h => h.of_eq rfl rfl)
    (fun _ h => h.of_eq rfl rfl) (fun _ hq h => h.ofQuarter hq) (fun _ hp h => h.ofPhase hp) h hs

end Sys2Proof.Machine
end

section
/-! SUPPORT. The captures of the schedule and the values they come from: the start capture of the burst in flight, and the
fast-until of every checkpoint in the queue and in the store (R44, R54, R140, R176); with the settled statement beside
them. -/

namespace Sys2Proof.Machine

/-! ## The checkpoints that stand in the store and in its queue -/

/-- Every checkpoint of a queue that has its content holds a fast-until in range. -/
def FastQueue (q : List QueueRecord) : Prop :=
  ∀ c, QueueRecord.checkpoint (some c) ∈ q → c.content.fastUntil ≤ 16777215

/-- Fast-until is in range in the timebase, and in every checkpoint stored or queued, which took it from there. -/
structure State.FastBounded (s : State) : Prop where
  now : s.tb.fastUntil ≤ 16777215
  stored : ∀ c, some c ∈ s.nv.checkpoints → c.content.fastUntil ≤ 16777215
  queued : FastQueue s.es.queue

theorem State.FastBounded.of_eq {s t : State} (h : s.FastBounded) (htb : t.tb = s.tb) (hnv : t.nv = s.nv)
    (hq : t.es.queue = s.es.queue) : t.FastBounded :=
  ⟨htb ▸ h.now, hnv ▸ h.stored, hq ▸ h.queued⟩

theorem writeHead_fast {q : List QueueRecord} {s : State} (h : s.FastBounded) (hq : FastQueue q) :
    (writeHead q s).FastBounded := by
  induction q generalizing s with
  | nil => exact ⟨h.now, h.stored, hq⟩
  | cons r rest ih =>
    cases r with
    | episode e =>
      unfold writeHead
      split
      · exact ih (h.of_eq (by simp) (by simp) (foldEpisode_queue e s).1) (fun c hc => hq c (.tail _ hc))
      · exact ⟨h.now, h.stored, hq⟩
    | checkpoint c =>
      refine ⟨h.now, fun x hx => ?_, fun x hx => ?_⟩
      · rcases List.mem_or_eq_of_mem_set hx with hx | hx
        · exact h.stored x hx
        · cases hx
      · rcases List.mem_cons.mp hx with hx | hx
        · cases hx
          exact h.now
        · exact hq x (.tail _ hx)
    | _ => exact ⟨h.now, h.stored, hq⟩

theorem startWrites_fast {s : State} (h : s.FastBounded) : (startWrites s).FastBounded := by
  unfold startWrites
  split
  · exact writeHead_fast h h.queued
  · exact h

/-- A record that carries no checkpoint's content, as every record offered to the store. -/
def QueueRecord.unsealed : QueueRecord → Prop
  | .checkpoint (some _) => False
  | .profile _ | .episode _ | .leg _ | .checkpoint none | .certificate _ => True

theorem QueueRecord.ofClose.unsealed {r : QueueRecord} (h : r.ofClose) : r.unsealed := by
  unfold QueueRecord.unsealed
  split
  · exact h
  all_goals trivial

theorem joinQueue_fast {r : QueueRecord} (hr : r.unsealed) {s : State} (h : s.FastBounded) : (joinQueue r s).FastBounded := by
  refine startWrites_fast ⟨h.now, h.stored, fun c hc => ?_⟩
  rcases List.mem_append.mp hc with hc | hc
  · exact h.queued c hc
  · rw [← List.mem_singleton.mp hc] at hr
    exact hr.elim

theorem admitCritical_fast {s : State} (h : s.FastBounded) : (admitCritical s).FastBounded := by
  have cleared : ({ s with es := { s.es with criticalWaiting := false } } : State).FastBounded := h.of_eq rfl rfl rfl
  unfold admitCritical
  dsimp only
  split
  · split
    · exact cleared
    · split
      · exact joinQueue_fast (r := .checkpoint none) trivial cleared
      · exact h
  · exact h

theorem offer_fast {r : QueueRecord} (hr : r.unsealed) {s : State} (h : s.FastBounded) : (offer r s).FastBounded := by
  have admitted := admitCritical_fast h
  unfold offer
  dsimp only
  split
  · exact admitted
  · split
    · exact joinQueue_fast hr admitted
    · exact admitted.of_eq (by simp) (by simp) (refuseRecord_queue r _).1

theorem nextWrite_fast {s : State} (h : s.FastBounded) : (nextWrite s).FastBounded := by
  have tail : FastQueue s.es.queue.tail := fun c hc => h.queued c (List.mem_of_mem_tail hc)
  unfold nextWrite
  split
  · exact writeHead_fast h tail
  · exact ⟨h.now, h.stored, tail⟩

theorem CloseReach.fast {s t : State} (h : CloseReach s t) (hs : s.FastBounded) : t.FastBounded := by
  induction h with
  | refl => exact hs
  | update _ hu ih => exact ih.of_eq hu.tb hu.nv hu.queue
  | offered _ hr ih => exact offer_fast hr.unsealed ih

/-! ## The captures -/

/-- The captures of the timebase, beside fast-until. -/
structure TimebaseBlock.Captured (tb : TimebaseBlock) : Prop where
  alert : ∀ n, tb.alertInterval = some n → n ≤ 16777215
  riseRef : ∀ x, tb.riseRef = some x → x.InRange
  riseBuffer : ∀ x, tb.riseBuffer = some x → x.InRange

/-- The burst in flight started at a capture in range. -/
def Burst.Captured (b : Burst) : Prop := ∀ f, b.flight = some f → f.start.InRange

theorem capturesSound_iff {s : State} : s.CapturesSound ↔ s.tb.Captured ∧ s.mc.burst.Captured ∧ s.FastBounded :=
  ⟨fun h => ⟨⟨h.alert, h.riseRef, h.riseBuffer⟩, h.flight, ⟨h.fastUntil, h.stored, h.queued⟩⟩,
    fun ⟨ht, hf, hb⟩ => ⟨hb.now, ht.alert, ht.riseRef, ht.riseBuffer, hf, hb.stored, hb.queued⟩⟩

theorem State.CapturesSound.timebase {s : State} (h : s.CapturesSound) : s.tb.Captured := (capturesSound_iff.mp h).1

theorem State.CapturesSound.burst {s : State} (h : s.CapturesSound) : s.mc.burst.Captured := h.flight

theorem State.CapturesSound.fast {s : State} (h : s.CapturesSound) : s.FastBounded := (capturesSound_iff.mp h).2.2

theorem State.CapturesSound.of_eq {s t : State} (h : s.CapturesSound) (htb : t.tb = s.tb)
    (hmc : t.mc.burst = s.mc.burst) (hnv : t.nv = s.nv) (hq : t.es.queue = s.es.queue) : t.CapturesSound :=
  capturesSound_iff.mpr ⟨htb ▸ h.timebase, hmc ▸ h.burst, h.fast.of_eq htb hnv hq⟩

/-- A command that works on the store alone needs its effect on the checkpoints. -/
theorem State.CapturesSound.ofStore {s t : State} (h : s.CapturesSound) (htb : t.tb = s.tb) (hmc : t.mc.burst = s.mc.burst)
    (hf : t.FastBounded) : t.CapturesSound :=
  capturesSound_iff.mpr ⟨htb ▸ h.timebase, hmc ▸ h.burst, hf⟩

theorem startBurst_captures {s : State} (hn : s.now.InRange) (h : s.CapturesSound) : (startBurst s).CapturesSound := by
  unfold startBurst
  split
  · refine capturesSound_iff.mpr ⟨h.timebase, fun f hf => ?_, h.fast.of_eq rfl rfl rfl⟩
    cases hf
    exact hn
  · exact h

theorem trigger_captures (src : Source) {s : State} (hn : s.now.InRange) (h : s.CapturesSound) :
    (trigger src s).CapturesSound := by
  unfold trigger
  split
  · exact h
  · exact startBurst_captures hn (h.of_eq rfl rfl rfl rfl)

theorem abortBurst_burst (busy : Bool) (s : State) : (abortBurst busy s).mc.burst.flight = none := by
  unfold abortBurst
  split
  · simp [*, Burst.flight]
  all_goals
    split <;> simp [Burst.flight]

theorem abortBurst_captures (busy : Bool) {s : State} (h : s.CapturesSound) : (abortBurst busy s).CapturesSound := by
  refine capturesSound_iff.mpr ⟨by simpa using h.timebase, fun f hf => ?_, h.fast.of_eq (by simp) (by simp) (by simp)⟩
  rw [abortBurst_burst] at hf
  cases hf

theorem CloseReach.captures {s t : State} (h : CloseReach s t) (hmc : t.mc.burst = s.mc.burst) (hs : s.CapturesSound) :
    t.CapturesSound :=
  hs.ofStore h.tb hmc (h.fast hs.fast)

/-! ## Every operation keeps the captures -/

theorem selectMode_captures {s : State} (h : s.CapturesSound) : (selectMode s).CapturesSound := by
  unfold selectMode
  dsimp only
  split
  · exact h
  · exact capturesSound_iff.mpr ⟨⟨h.alert, h.riseRef, h.riseBuffer⟩, h.burst, ⟨h.fastUntil, h.stored, h.queued⟩⟩

theorem extendFast_captures {s : State} (h : s.CapturesSound) : (extendFast s).CapturesSound := by
  unfold extendFast
  split
  · refine selectMode_captures ⟨?_, h.alert, h.riseRef, h.riseBuffer, h.flight, h.stored, h.queued⟩
    exact max_le h.fastUntil (Nat.min_le_left ..)
  · exact h

theorem clearFast_captures {s : State} (h : s.CapturesSound) : (clearFast s).CapturesSound :=
  selectMode_captures ⟨Nat.zero_le _, h.alert, h.riseRef, h.riseBuffer, h.flight, h.stored, h.queued⟩

theorem setSupply_captures (x : Supply) {s : State} (h : s.CapturesSound) : (setSupply x s).CapturesSound :=
  selectMode_captures (h.of_eq rfl rfl rfl rfl)

theorem clearRise_captures {s : State} (h : s.CapturesSound) : (clearRise s).CapturesSound :=
  ⟨h.fastUntil, by simp [clearRise], by simp [clearRise], by simp [clearRise], h.flight, h.stored, h.queued⟩

/-- What the captures need of a result: its start capture and its temperature in range. -/
structure BurstResult.InRange (r : BurstResult) : Prop where
  start : r.start.InRange
  temp : ∀ t, r.p = .temp t → -4000 ≤ t ∧ t ≤ 8500

theorem clampTemp_range (x : Int) : -4000 ≤ clampTemp x ∧ clampTemp x ≤ 8500 := by
  unfold clampTemp clampTo
  omega

theorem channelReading_range {ch : Channel} {codes : List Nat} {rref : Nat} {trim t : Int}
    (h : (channelReading ch codes rref trim).outcome = .temp t) : -4000 ≤ t ∧ t ≤ 8500 := by
  unfold channelReading at h
  split at h
  · rename_i fault _
    cases fault <;> cases h
  · cases h
    exact clampTemp_range _

theorem formResult_range (info : Info) {f : Flight} (codes : List Nat) (h : f.start.InRange) :
    (formResult info f codes).1.InRange := by
  unfold formResult
  dsimp only
  split
  · split <;> exact ⟨h, fun t ht => channelReading_range ht⟩
  · exact ⟨h, fun t ht => by cases ht⟩

theorem riseEvent_captures (busy : Bool) {n : Nat} (hn : n ≤ 16777215) {s : State} (h : s.CapturesSound) :
    (riseEvent busy n s).CapturesSound := by
  have extended := extendFast_captures h
  unfold riseEvent
  dsimp only
  split
  · exact extended
  · refine State.CapturesSound.of_eq (s := { extendFast s with tb := { (extendFast s).tb with alertInterval := some n } }) ?_
      (by simp) (by simp) (by simp) (by simp)
    refine ⟨extended.fastUntil, fun m hm => ?_, extended.riseRef, extended.riseBuffer, extended.flight, extended.stored,
      extended.queued⟩
    cases hm
    exact hn

/-- The rise detector's new captures are a result's, and those it held (R55). -/
theorem State.CapturesSound.ofRise {s : State} (h : s.CapturesSound) {new : RisePoint} (hnew : new.InRange)
    {buffer : Option RisePoint} (hb : ∀ x, buffer = some x → x.InRange) :
    ({ s with tb := { s.tb with riseBuffer := buffer, riseRef := some new } } : State).CapturesSound :=
  ⟨h.fastUntil, h.alert, fun x hx => by cases hx; exact hnew, hb, h.flight, h.stored, h.queued⟩

theorem riseDetect_captures (busy : Bool) {r : BurstResult} (hr : r.InRange) {s : State} (h : s.CapturesSound) :
    (riseDetect busy r s).CapturesSound := by
  unfold riseDetect
  split
  · exact h
  · rename_i t ht
    have taken : RisePoint.InRange ⟨r.start, t⟩ := by
      refine ⟨hr.start, hr.temp t ?_⟩
      cases hp : r.p <;> simp_all [Outcome.temp?]
    split
    · exact h.ofRise taken h.riseBuffer
    · rename_i ref href
      dsimp only
      split
      · exact h
      · refine State.CapturesSound.ofRise ?_ taken (fun x hx => by cases hx; exact h.riseRef ref href)
        split
        · exact riseEvent_captures busy hr.start.1 h
        · exact h

theorem deliver_captures (busy : Bool) {r : BurstResult} (hr : r.InRange) {s : State} (h : s.CapturesSound) :
    (deliver busy r s).CapturesSound := by
  have credited : (if r.credit then riseDetect busy r (deliverToExposure r s) else s).CapturesSound := by
    split
    · exact riseDetect_captures busy hr ((deliverToExposure_reach r s).captures (by simp) h)
    · exact h
  unfold deliver
  dsimp only
  split
  · exact credited.of_eq (by simp) (by simp) (by simp) (by simp)
  · exact credited

theorem State.ScheduleSound.nowInRange {s : State} (h : s.ScheduleSound) : s.now.InRange := ⟨h.interval, h.phase⟩

/-- The converter idle with no burst in flight. -/
theorem State.CapturesSound.ofIdle {s : State} (h : s.CapturesSound) (triggers : Sources) (last : Option BurstResult) :
    ({ s with mc := ⟨.idle, triggers, last⟩ } : State).CapturesSound :=
  ⟨h.fastUntil, h.alert, h.riseRef, h.riseBuffer, by simp [Burst.flight], h.stored, h.queued⟩

theorem completeBurst_captures (busy : Bool) {f : Flight} (codes : List Nat) {s : State} (hf : f.start.InRange)
    (hs : s.ScheduleSound) (h : s.CapturesSound) : (completeBurst busy f codes s).CapturesSound := by
  have noted : (noteAll f.start (formResult s.info f codes).2 s).CapturesSound :=
    h.of_eq (by simp) (by simp) (by simp) (by simp)
  have schedule : (noteAll f.start (formResult s.info f codes).2 s).ScheduleSound := hs.ofNotes (by simp) (noteAll_notes ..)
  have result := formResult_range s.info codes hf
  unfold completeBurst
  dsimp only
  generalize noteAll f.start (formResult s.info f codes).2 s = u at noted schedule ⊢
  generalize (formResult s.info f codes).1 = r at result ⊢
  have last : ({ u with mc := { u.mc with last := some r } } : State).CapturesSound := noted.of_eq rfl rfl rfl rfl
  have scheduled := deliver_schedule busy r (schedule.ofConverter { u.mc with last := some r })
  exact startBurst_captures (scheduled.ofConverter _).nowInRange ((deliver_captures busy result last).ofIdle _ _)

theorem takeBeacon_captures (b : BeaconFrame) (quality : Byte) {s : State} (hn : s.now.InRange) (h : s.CapturesSound) :
    (takeBeacon b quality s).CapturesSound := by
  have entered : (enterBeacon b quality s).CapturesSound := h.of_eq (by simp) (by simp) (by simp) (by simp)
  unfold takeBeacon
  split
  · exact h.of_eq (by simp) (by simp) (by simp) (by simp)
  · dsimp only
    split
    · exact extendFast_captures (trigger_captures _ (by simpa [State.now] using hn) entered)
    · exact entered

/-! ## Reader commands -/

theorem acceptClose_captures (who : Asker) (busy : Bool) {s : State} (h : s.CapturesSound) :
    (acceptClose who busy s).CapturesSound := by
  have closed := (partialCloseNow_reach (runDeferred (abortBurst busy s))).captures (by simp)
    ((runDeferred_reach (abortBurst busy s)).captures (by simp) (abortBurst_captures busy h))
  unfold acceptClose enterClosing
  exact closed.of_eq (by simp) (by simp) (by simp) (by simp)

theorem takeHandover_captures (who : Asker) (payload : List Byte) (busy : Bool) {s : State} (h : s.CapturesSound) :
    (takeHandover who payload busy s).CapturesSound := by
  have answered : ∀ (status : Status) (bs : List Byte) (u : State), u.CapturesSound → (answer who status bs busy u).CapturesSound :=
    fun status bs u hu => hu.of_eq (by simp) (by simp) (by simp) (by simp)
  unfold takeHandover
  split
  · split
    · exact answered _ _ _ h
    · split
      · refine answered _ _ _ ?_
        unfold judgeHandover
        split
        · split <;> exact h
        · split
          · split
            · exact h
            · exact h.ofStore (by simp) (by simp) (offer_fast (r := .leg _) trivial (h.fast.of_eq rfl rfl rfl))
          · exact h
      · exact answered _ _ _ h
  · split <;> exact answered _ _ _ h

theorem dispatchCommand_captures (kind : CommandKind) (who : Asker) (payload : List Byte) (busy : Bool) {s : State}
    (hn : s.now.InRange) (h : s.CapturesSound) : (dispatchCommand kind who payload busy s).CapturesSound := by
  have answered : ∀ t : State, t.tb = s.tb → t.mc = s.mc → t.nv = s.nv → t.es = s.es → t.CapturesSound :=
    fun t h1 h2 h3 h4 => h.of_eq h1 (by rw [h2]) h3 (by rw [h4])
  cases kind with
  | commission =>
    simp only [dispatchCommand, takeCommission]
    split
    · split
      · exact h.ofStore (by simp) (by simp) (offer_fast (r := .profile _) trivial (h.fast.of_eq rfl rfl rfl))
      · exact answered _ (by simp) (by simp) (by simp) (by simp)
    · exact answered _ (by simp) (by simp) (by simp) (by simp)
  | handover => exact takeHandover_captures who payload busy h
  | query => exact answered _ (by simp [dispatchCommand]) (by simp [dispatchCommand]) (by simp [dispatchCommand]) (by simp [dispatchCommand])
  | live =>
    simp only [dispatchCommand, takeLive]
    split
    · exact answered _ (by simp) (by simp) (by simp) (by simp)
    · exact trigger_captures _ (by simpa [State.now] using hn) (answered _ (by simp) (by simp) (by simp) (by simp))
  | close =>
    simp only [dispatchCommand, takeClose]
    split
    · exact acceptClose_captures who busy h
    · split <;> exact answered _ (by simp) (by simp) (by simp) (by simp)
  | erase =>
    simp only [dispatchCommand, takeErase]
    split
    · exact h.ofStore rfl rfl ⟨h.fastUntil, h.stored, h.queued⟩
    · split <;> exact answered _ (by simp) (by simp) (by simp) (by simp)

theorem receiveCommand_captures (kind : CommandKind) (f : CommandFrame) (busy : Bool) {s : State} (hn : s.now.InRange)
    (h : s.CapturesSound) : (receiveCommand kind f busy s).CapturesSound := by
  have counted : ∀ g u, u.CapturesSound → (counting g u).CapturesSound := fun g u hu => hu.of_eq rfl rfl rfl rfl
  have answered : ∀ (status : Status) (u : State), u.CapturesSound → (answer ⟨f.reader, f.seq⟩ status [] busy u).CapturesSound :=
    fun status u hu => hu.of_eq (by simp) (by simp) (by simp) (by simp)
  unfold receiveCommand delivered
  split
  · unfold examineCommand
    dsimp only
    split
    · exact counted _ _ (counted _ _ h)
    · split
      · exact answered _ _ (counted _ _ (counted _ _ h))
      · split
        · exact dispatchCommand_captures _ _ _ _ hn (counted _ _ (counted _ _ h))
        · exact answered _ _ (counted _ _ (counted _ _ h))
  · exact h

/-! ## Events -/

/-- A change of the timebase that keeps fast-until and the captures. -/
theorem State.CapturesSound.ofSchedule {s : State} (h : s.CapturesSound) {t : State} (hf : t.tb.fastUntil = s.tb.fastUntil)
    (ha : t.tb.alertInterval = s.tb.alertInterval) (hr : t.tb.riseRef = s.tb.riseRef)
    (hb : t.tb.riseBuffer = s.tb.riseBuffer) (hmc : t.mc.burst = s.mc.burst) (hnv : t.nv = s.nv)
    (hq : t.es.queue = s.es.queue) : t.CapturesSound :=
  ⟨hf ▸ h.fastUntil, ha ▸ h.alert, hr ▸ h.riseRef, hb ▸ h.riseBuffer, hmc ▸ h.flight, hnv ▸ h.stored, hq ▸ h.queued⟩

theorem reachPhase_captures (p : Nat) {s : State} (h : s.CapturesSound) : (reachPhase p s).CapturesSound := by
  unfold reachPhase
  split
  · exact h.ofSchedule rfl rfl rfl rfl rfl rfl rfl
  · exact h

theorem compareMatches_captures {s : State} (hs : s.ScheduleSound) (h : s.CapturesSound) :
    (compareMatches s).CapturesSound := by
  unfold compareMatches
  split
  · rename_i c hc
    have reached := reachPhase_captures c h
    have hn := (reachPhase_schedule (hs.compare c hc) hs).nowInRange
    refine State.CapturesSound.ofSchedule (s := if (reachPhase c s).cu.custody.inService
      && (reachPhase c s).sf.activity = .running then trigger .schedule (reachPhase c s) else reachPhase c s) ?_ rfl rfl rfl
      rfl rfl rfl rfl
    split
    · exact trigger_captures _ hn reached
    · exact reached
  · exact h

theorem boundary_captures {s : State} (h : s.CapturesSound) : (boundary s).CapturesSound := by
  have stepped : (boundarySteps s).CapturesSound := h.ofSchedule rfl rfl rfl rfl rfl rfl rfl
  unfold boundary
  split
  · exact stepped
  · exact (boundaryToExposure_reach _).captures (by simp) stepped

theorem checkpointEnds_fast (ok : Bool) {c : Option Checkpoint} {s : State}
    (hc : ∀ x, c = some x → x.content.fastUntil ≤ 16777215) (h : s.FastBounded) : (checkpointEnds ok c s).FastBounded := by
  refine ⟨h.now, fun x hx => ?_, h.queued⟩
  rcases List.mem_or_eq_of_mem_set hx with hx | hx
  · exact h.stored x hx
  · split at hx
    · exact hc x hx.symm
    · cases hx

theorem enterPrecool_captures {s : State} (h : s.CapturesSound) : (enterPrecool s).CapturesSound :=
  selectMode_captures ⟨Nat.zero_le _, by simp, by simp, by simp, h.flight, h.stored, h.queued⟩

theorem profileWritten_captures (r : ProfileRecord) (busy : Bool) {s : State} (h : s.CapturesSound) :
    (profileWritten r busy s).CapturesSound := by
  have stored : ({ s with nv := { s.nv with profile := some r } } : State).CapturesSound :=
    ⟨h.fastUntil, h.alert, h.riseRef, h.riseBuffer, h.flight, h.stored, h.queued⟩
  unfold profileWritten
  exact (enterPrecool_captures stored).of_eq (by simp) (by simp) (by simp) (by simp)

theorem nextWrite_captures {s : State} (h : s.CapturesSound) : (nextWrite s).CapturesSound :=
  h.ofStore (by simp) (by simp) (nextWrite_fast h.fast)

theorem writeEnds_captures (v b busy : Bool) {s : State} (h : s.CapturesSound) : (writeEnds v b busy s).CapturesSound := by
  unfold writeEnds
  split
  · split
    · rename_i r rest hq
      generalize (v && !b) = ok
      have noted : (if ok then s else noteNow .storeFail r.datum s).CapturesSound := by
        split
        · exact h
        · exact h.of_eq (by simp) (by simp) (by simp) (by simp)
      unfold recordEnds
      revert noted
      generalize (if ok then s else noteNow .storeFail r.datum s) = u
      intro hu
      cases r with
      | profile p =>
        dsimp only
        split
        · exact profileWritten_captures p busy (nextWrite_captures hu)
        · exact (nextWrite_captures hu).of_eq (by simp) (by simp) (by simp) (by simp [profileFailed])
      | episode e =>
        refine nextWrite_captures (?_ : (if ok then episodeStored e u else foldEpisode e u).CapturesSound)
        split
        · exact hu.ofStore rfl rfl ⟨hu.fastUntil, hu.stored, hu.queued⟩
        · exact hu.of_eq (by simp) (by simp) (by simp) (foldEpisode_queue e u).1
      | leg l => exact nextWrite_captures (hu.ofStore rfl rfl ⟨hu.fastUntil, hu.stored, hu.queued⟩)
      | checkpoint c =>
        refine nextWrite_captures (hu.ofStore rfl rfl (checkpointEnds_fast ok (fun x hx => ?_) hu.fast))
        exact h.queued x (by simp [hq, hx])
      | certificate c =>
        refine State.CapturesSound.ofStore (s := nextWrite u) (nextWrite_captures hu) (by simp) (by simp) ?_
        have written := (nextWrite_captures hu).fast
        refine ⟨by simpa using written.now, fun x hx => written.stored x ?_, fun x hx => written.queued x ?_⟩
        · cases ok <;> simpa [certificateEnds] using hx
        · simpa [certificateEnds] using hx
    · exact h
  · exact h

theorem handOverClosing_captures {s : State} (h : s.CapturesSound) : (handOverClosing s).CapturesSound := by
  refine h.ofStore (by simp) (by simp) ?_
  unfold handOverClosing
  split
  · split
    · exact h.fast
    · rename_i item rest _
      cases item with
      | episode e => exact offer_fast (r := .episode e) trivial (h.fast.of_eq rfl rfl rfl)
      | leg l => exact offer_fast (r := .leg l) trivial (h.fast.of_eq rfl rfl rfl)
      | checkpoint => exact offer_fast (r := .checkpoint none) trivial (h.fast.of_eq rfl rfl rfl)
      | certificate => exact offer_fast (r := .certificate _) trivial (h.fast.of_eq rfl rfl rfl)
  · exact h.fast

theorem blankBlocks_captures (busy : Bool) (s : State) : (blankBlocks busy s).CapturesSound := by
  unfold blankBlocks
  refine selectMode_captures ⟨Nat.zero_le _, by simp, by simp, by simp, by simp [ConverterBlock.blank, Burst.flight], ?_, ?_⟩
  · simp [Areas.empty]
  · simp [StoreBlock.blank]

theorem eraseCompletes_captures (busy : Bool) {s : State} (h : s.CapturesSound) :
    (eraseCompletes busy s).CapturesSound := by
  unfold eraseCompletes
  split
  · exact (blankBlocks_captures busy s).of_eq (by simp) (by simp) (by simp) (by simp)
  · exact h

theorem startWrites_captures {s : State} (h : s.CapturesSound) : (startWrites s).CapturesSound :=
  h.ofStore (by simp) (by simp) (startWrites_fast h.fast)

theorem riseToLow_captures {s : State} (h : s.CapturesSound) : (riseToLow s).CapturesSound := by
  have low := setSupply_captures .low h
  unfold riseToLow
  dsimp only
  split
  · have on : (radioOn { setSupply .low s with sf := { (setSupply .low s).sf with activity := .running } }).CapturesSound :=
      low.of_eq (by simp) (by simp) (by simp) (by simp)
    exact (clearRise_captures (startWrites_captures on)).ofSchedule rfl rfl rfl rfl rfl rfl rfl
  · exact low

theorem fallToCritical_captures (busy : Bool) {s : State} (h : s.CapturesSound) : (fallToCritical busy s).CapturesSound := by
  have critical := setSupply_captures .critical h
  unfold fallToCritical
  dsimp only
  split
  · exact critical
  · unfold enterHaltPending offerCritical
    have pending : ({ setSupply .critical s with sf := { (setSupply .critical s).sf with haltPending := true } } :
        State).CapturesSound := critical.of_eq rfl rfl rfl rfl
    have closed := (runDeferred_reach (abortBurst busy { setSupply .critical s with
      sf := { (setSupply .critical s).sf with haltPending := true } })).captures (by simp) (abortBurst_captures busy pending)
    dsimp only
    split
    · refine State.CapturesSound.ofStore closed (by simp) (by simp) (admitCritical_fast (closed.fast.of_eq ?_ ?_ ?_))
      all_goals simp
    · exact closed.of_eq (by simp) (by simp) (by simp) (by simp)

theorem fallToLow_captures {s : State} (h : s.CapturesSound) : (fallToLow s).CapturesSound :=
  (clearFast_captures (s := { s with sf := { s.sf with supply := .low } }) (h.of_eq rfl rfl rfl rfl)).of_eq (by simp [fallToLow])
    (by simp) (by simp) (by simp)

theorem halts_captures {s : State} (h : s.CapturesSound) : (halts s).CapturesSound := by
  unfold halts
  split
  · split
    · exact h.of_eq (by simp) (by simp) (by simp) (by simp)
    · exact clearRise_captures (h.of_eq (by simp) (by simp) (by simp) (by simp))
  · exact h

/-! ## Power-on -/

theorem mem_validFrom {slots : List (Option Checkpoint)} {k : Nat} {x : Nat × CheckpointContent} (h : x ∈ validFrom k slots) :
    ∃ c, some c ∈ slots ∧ c.content = x.2 := by
  induction slots generalizing k with
  | nil => cases h
  | cons slot rest ih =>
    have later : ∀ j, x ∈ validFrom j rest → ∃ c, some c ∈ slot :: rest ∧ c.content = x.2 := fun j hx => by
      obtain ⟨c, hc, heq⟩ := ih hx
      exact ⟨c, .tail _ hc, heq⟩
    cases slot with
    | none => exact later _ h
    | some c =>
      unfold validFrom at h
      split at h
      · rcases List.mem_cons.mp h with hx | hx
        · exact ⟨c, .head _, by rw [hx]⟩
        · exact later _ hx
      · exact later _ h

theorem mem_of_newest {xs : List (Nat × CheckpointContent)} {x : Nat × CheckpointContent} (h : newest xs = some x) :
    x ∈ xs := by
  induction xs generalizing x with
  | nil => cases h
  | cons c rest ih =>
    unfold newest at h
    split at h
    · cases h
      exact .head _
    · rename_i d hd
      split at h
      · cases h
        exact .tail _ (ih hd)
      · cases h
        exact .head _

/-- The checkpoint that a power-on uses is one of the store's (R141). -/
theorem State.CapturesSound.ofNewest {s : State} (h : s.CapturesSound) {x : Nat × CheckpointContent}
    (hx : newest s.nv.valid = some x) : x.2.fastUntil ≤ 16777215 := by
  obtain ⟨c, hc, heq⟩ := mem_validFrom (mem_of_newest hx)
  exact heq ▸ h.stored c hc

theorem fastFrom_le {supply : Supply} {f : Nat} (h : f ≤ 16777215) : fastFrom supply f ≤ 16777215 := by
  unfold fastFrom
  split
  · exact h
  · exact Nat.zero_le _

/-- A timebase started afresh has no captures, and takes a fast-until in range (R60). -/
theorem startTimebase_captures {n f : Nat} (hf : f ≤ 16777215) {s : State} (hmc : s.mc.burst.Captured)
    (hnv : ∀ c, some c ∈ s.nv.checkpoints → c.content.fastUntil ≤ 16777215) (hq : FastQueue s.es.queue) :
    (startTimebase n f s).CapturesSound :=
  ⟨fastFrom_le hf, by simp [startTimebase, TimebaseBlock.start], by simp [startTimebase, TimebaseBlock.start],
    by simp [startTimebase, TimebaseBlock.start], hmc, hnv, hq⟩

theorem restoreBlocks_captures (p : ProfileRecord) {s : State} (h : s.CapturesSound) : (restoreBlocks p s).CapturesSound := by
  refine startTimebase_captures ?_ h.burst h.stored (fun c hc => ?_)
  · cases hn : newest s.nv.valid with
    | none => simp [zeroBase]
    | some x => simpa using h.ofNewest hn
  · revert hc
    dsimp only
    split <;> simp

theorem comeUpClosed_captures (p : ProfileRecord) (c : Certificate) {s : State} (h : s.CapturesSound) :
    (comeUpClosed p c s).CapturesSound := by
  refine startTimebase_captures ?_ h.burst h.stored (fun c hc => by cases hc)
  cases hn : newest s.nv.valid with
  | none => simp
  | some x => simpa using h.ofNewest hn

theorem examineStore_captures {s : State} (h : s.CapturesSound) : (examineStore s).CapturesSound := by
  unfold examineStore
  split
  · exact h.ofStore rfl rfl ⟨h.fastUntil, by simp [Areas.empty], h.queued⟩
  · split
    · exact h
    · rename_i p _
      split
      · exact comeUpClosed_captures p _ h
      · have blocks := restoreBlocks_captures p h
        have noted : (if s.nv.used.isNone then noteNow .checkpointBad [4] (restoreBlocks p s) else restoreBlocks p s).CapturesSound := by
          split
          · exact blocks.of_eq (by simp) (by simp) (by simp) (by simp)
          · exact blocks
        unfold restore
        exact startWrites_captures (noted.of_eq (by simp) (by simp) (by simp) (by simp))

theorem unpowered_captures {s t : State} (h : s.CapturesSound) (hnv : t.nv = s.nv) {serial : Serial} {n : Nat} {m : Mode}
    (htb : t.tb = TimebaseBlock.start serial n 0 m) (hmc : t.mc = ConverterBlock.blank) (hes : t.es = StoreBlock.blank) :
    t.CapturesSound := by
  constructor <;> simp only [htb, hmc, hnv, hes]
  case stored => exact h.stored
  all_goals simp [TimebaseBlock.start, ConverterBlock.blank, Burst.flight, StoreBlock.blank]

/-- Every command of a part with a sound schedule keeps the captures. -/
theorem exec_captures (i : Instr) {s : State} (hs : s.ScheduleSound) (h : s.CapturesSound) :
    (afterExec i s).CapturesSound := by
  apply exec_ind State.CapturesSound s h
  case command => exact fun kind f busy _ => receiveCommand_captures kind f busy hs.nowInRange h
  case good => exact fun _ _ => h.of_eq (by simp) (by simp) (by simp) (by simp)
  case bad => exact fun _ _ _ => h.of_eq (by simp) (by simp) (by simp) (by simp)
  case beacon =>
    intro b q _ _
    unfold dispatchBeacon
    split
    · exact takeBeacon_captures b q hs.nowInRange (h.of_eq rfl rfl rfl rfl)
    · exact h.of_eq rfl rfl rfl rfl
  case settling =>
    intro _
    unfold settlingEnds
    split
    · rename_i f hf
      refine capturesSound_iff.mpr ⟨h.timebase, fun g hg => ?_, h.fast.of_eq rfl rfl rfl⟩
      cases hg
      exact h.flight f (by rw [hf]; rfl)
    all_goals exact h
  case conversion =>
    intro code busy _
    unfold conversionEnds
    split
    · rename_i f codes hf
      have start : f.start.InRange := h.flight f (by rw [hf]; rfl)
      dsimp only
      split
      · refine capturesSound_iff.mpr ⟨h.timebase, fun g hg => ?_, h.fast.of_eq rfl rfl rfl⟩
        cases hg
        exact start
      · exact completeBurst_captures busy _ start hs h
    all_goals exact h
  case atBoundary => exact fun _ => boundary_captures h
  case atCompare => exact fun _ => compareMatches_captures hs h
  case due =>
    intro busy _
    have reached := reachPhase_captures s.tb.beaconOffset h
    unfold beaconDue
    dsimp only
    split
    · exact reached.of_eq (by simp) (by simp) (by simp) (by simp)
    · exact reached
  case backoff => exact fun busy next _ => h.of_eq (by simp) (by simp) (by simp) (by simp)
  case complete => exact fun busy _ => h.of_eq (by simp) (by simp) (by simp) (by simp)
  case timeout => exact fun busy _ => h.of_eq (by simp) (by simp) (by simp) (by simp)
  case wait => exact fun busy _ => h.of_eq (by simp) (by simp) (by simp) (by simp)
  case write => exact fun v b busy _ => writeEnds_captures v b busy h
  case handOver => exact fun _ => handOverClosing_captures h
  case admitted => exact fun _ => h.ofStore (by simp) (by simp) (admitCritical_fast h.fast)
  case erased => exact fun busy _ => eraseCompletes_captures busy h
  case low =>
    intro _
    unfold supplyFallsLow
    split
    · exact fallToLow_captures h
    · exact h
  case rises =>
    intro _
    unfold supplyRisesGood
    split
    · exact h
    · exact setSupply_captures _ h
    · exact setSupply_captures _ (riseToLow_captures h)
  case critical =>
    intro busy _
    unfold supplyFallsCritical
    split
    · exact fallToCritical_captures busy (fallToLow_captures h)
    · exact fallToCritical_captures busy h
    · exact h
  case recovers =>
    intro _
    unfold supplyRecovers
    split
    · exact riseToLow_captures h
    · exact h
  case ready => exact fun _ => halts_captures h
  case loss => exact fun _ => unpowered_captures h rfl rfl rfl rfl
  case on => exact fun mv => examineStore_captures (unpowered_captures h rfl rfl rfl rfl)

/-- Settles O7: every command keeps the schedule, and with it the captures; time counts on inside the ranges. -/
theorem stepKeepsSchedule : Obligations.StepKeepsSchedule := by
  refine ⟨fun s t => step_schedule, fun s t hs hc => ?_⟩
  refine step_of_exec (fun s => s.ScheduleSound ∧ s.CapturesSound) State.CapturesSound (fun _ h => h.2)
    (fun i s h => exec_captures i h.1 h.2) ?_ ?_ ?_ ?_ ?_ ⟨hs, hc⟩
  · exact fun s q h => ⟨h.1.of_eq rfl rfl, h.2.of_eq rfl rfl rfl rfl⟩
  · exact fun s h => ⟨h.1.of_eq rfl rfl, h.2.of_eq rfl rfl rfl rfl⟩
  · exact fun s h => ⟨h.1.of_eq rfl rfl, h.2.of_eq rfl rfl rfl rfl⟩
  · exact fun s hq h => ⟨h.1.ofQuarter hq, h.2.ofSchedule rfl rfl rfl rfl rfl rfl rfl⟩
  · exact fun s hp h => ⟨h.1.ofPhase hp, h.2.ofSchedule rfl rfl rfl rfl rfl rfl rfl⟩

end Sys2Proof.Machine
end

section
/-! SUPPORT. The step and the reset state as a whole, and the commands that end in one reply: a reply placed, a QUERY
answered or refused, a beacon of the own serial; with the settled statements beside them. -/

namespace Sys2Proof.Machine

/-! ## The step -/

theorem firstDue_eq_none {events : List (Bool × Instr)} : firstDue events = none ↔ ∀ e ∈ events, e.1 = false := by
  induction events with
  | nil => simp [firstDue]
  | cons e rest ih =>
    obtain ⟨due, i⟩ := e
    unfold firstDue
    cases due <;> simp [ih]

theorem compareReached_eq_false {s : State} :
    s.compareReached = false ↔ ∀ c, s.tb.compare = some c → s.tb.phase < c := by
  unfold State.compareReached
  cases s.tb.compare <;> simp

/-- No stage of a burst has run out exactly when a burst's period still runs, whatever its stage (R25). -/
theorem burst_not_over {s : State} :
    (s.settlingOver = false ∧ s.conversionOver = false) ↔ (s.mc.burst ≠ .idle → s.timers.burst ≠ 0) := by
  unfold State.settlingOver State.conversionOver
  cases s.mc.burst <;> simp

theorem criticalReady_eq_false {s : State} :
    s.criticalReady = false ↔
      (s.es.criticalWaiting = true → QueueRecord.checkpoint none ∉ s.es.queue ∧ 4 ≤ s.es.queue.length) := by
  unfold State.criticalReady
  change _ ↔ (s.es.criticalWaiting = true → _ ∧ queueLimit ≤ s.es.queue.length)
  rw [← unstartedCheckpoint_iff]
  simp

/-- No event of the transmitter is due exactly when its period still runs in each state that has one (R107, R116,
R118). -/
theorem transmitter_not_due {tx : TxState} {n : Nat} :
    ((tx = .wait → n ≠ 0) ∧ (tx = .backoff → n ≠ 0) ∧ (tx = .sending → n ≠ 0)) ↔
      (tx = .wait ∨ tx = .backoff ∨ tx = .sending → n ≠ 0) := by
  cases tx <;> simp

theorem store_not_due {state : StoreState} {n : Nat} :
    ((state = .writing → n ≠ 0) ∧ (state = .erasing → n ≠ 0)) ↔ (state ≠ .idle → n ≠ 0) := by
  cases state <;> simp

theorem dueEvent_eq_none (s : State) :
    dueEvent s = none ↔
      (∀ c, s.tb.compare = some c → s.tb.phase < c) ∧ (s.mc.burst ≠ .idle → s.timers.burst ≠ 0)
        ∧ (s.lc.tx = .wait ∨ s.lc.tx = .backoff ∨ s.lc.tx = .sending → s.timers.tx ≠ 0)
        ∧ (s.es.state ≠ .idle → s.timers.store ≠ 0)
        ∧ (s.es.criticalWaiting = true → QueueRecord.checkpoint none ∉ s.es.queue ∧ 4 ≤ s.es.queue.length)
        ∧ s.closingReady = false ∧ s.haltReady = false := by
  rw [← compareReached_eq_false, ← burst_not_over, ← transmitter_not_due, ← store_not_due, ← criticalReady_eq_false]
  simp [dueEvent, firstDue_eq_none, and_assoc]

theorem dueEvent_of_match {s : State} {c : Nat} (hc : s.tb.compare = some c) (hp : c ≤ s.tb.phase) :
    dueEvent s = some .compareMatch := by
  simp [dueEvent, firstDue, State.compareReached, hc, hp]

/-- With nothing due the periods run on, and the quarter, the phase or the interval with them (R45, R46, R59). -/
theorem passQuarter_cases (u : State) :
    (u.tb.quarter < 3 → passQuarter u = .next { u with tb := { u.tb with quarter := u.tb.quarter + 1 } })
    ∧ (3 ≤ u.tb.quarter → 59999 ≤ u.tb.phase → passQuarter u = exec .intervalBoundary u)
    ∧ (3 ≤ u.tb.quarter → u.tb.phase < 59999 → u.tb.phase + 1 ≠ u.tb.beaconOffset →
        passQuarter u = .next { u with tb := { u.tb with phase := u.tb.phase + 1, quarter := 0 } })
    ∧ (3 ≤ u.tb.quarter → u.tb.phase < 59999 → u.tb.phase + 1 = u.tb.beaconOffset →
        passQuarter u = exec (.beaconDue (Config.freeBusy (2 * u.inputs)))
          (drawInputs { u with tb := { u.tb with phase := u.tb.phase + 1, quarter := 0 } })) := by
  refine ⟨fun hq => ?_, fun hq hp => ?_, fun hq hp ho => ?_, fun hq hp ho => ?_⟩ <;> unfold passQuarter
  · rw [if_pos hq]
  · rw [if_neg (by omega), if_pos hp]
  · rw [if_neg (by omega), if_neg (by omega)]
    simp [ho]
  · rw [if_neg (by omega), if_neg (by omega)]
    simp [ho]

/-- Settles O1: by the definition of the step on each form of the queue, and the list of the events that can be due. -/
theorem stepRunsFrontCommand : Obligations.StepRunsFrontCommand := by
  refine ⟨fun c s => rfl, fun s hq => ?_⟩
  have htick : step s = tick s := by unfold step; rw [hq]
  refine ⟨fun hp => ?_, fun i hp hi => ?_, fun c => dueEvent_of_match, dueEvent_eq_none s, fun hp hd => ?_⟩
  · simp [htick, tick, hp]
  · simp [htick, tick, hp, hi, drawInputs]
  · have hstep : step s = passQuarter (shortenTimers s) := by simp [htick, tick, hp, hd]
    dsimp only
    rw [hstep]
    exact passQuarter_cases (shortenTimers s)

/-- A power-on leaves the commands that wait, the information store and the count of free values drawn (log 1, log 5). -/
theorem powerOn_frame (mv : Nat) (s : State) :
    (examineStore (poweredAt mv s)).pending = s.pending ∧ (examineStore (poweredAt mv s)).info = s.info
      ∧ (examineStore (poweredAt mv s)).inputs = s.inputs := by
  unfold examineStore
  split
  · exact ⟨rfl, rfl, rfl⟩
  · split
    · exact ⟨rfl, rfl, rfl⟩
    · split
      · exact ⟨rfl, rfl, rfl⟩
      · unfold restore
        dsimp only
        split <;> simp <;> exact ⟨rfl, rfl, rfl⟩

/-- A command leaves the commands that wait, the information store and the count of free values drawn. -/
theorem afterExec_frame (i : Instr) (s : State) :
    (afterExec i s).pending = s.pending ∧ (afterExec i s).info = s.info ∧ (afterExec i s).inputs = s.inputs := by
  apply exec_ind (fun t => t.pending = s.pending ∧ t.info = s.info ∧ t.inputs = s.inputs) s ⟨rfl, rfl, rfl⟩
  case on => exact fun mv => powerOn_frame mv s
  case loss => exact fun _ => ⟨rfl, rfl, rfl⟩
  all_goals
    intros
    simp

/-- Settles O2: every command answers `afterExec`, which leaves the queue, the information store and the draws. -/
theorem everyCommandCompletes : Obligations.EveryCommandCompletes :=
  fun i s => ⟨_, exec_eq_next i s, afterExec_frame i s⟩

/-! ## The reset state -/

theorem reset_schedule : State.reset.ScheduleSound := start_schedule (serial := Info.atReset.serial) (n := 0) (f := 0) (Nat.zero_le _) rfl

theorem reset_radio : State.reset.RadioSound :=
  radioSound_iff.mpr ⟨LinkBlock.start_sound _ _, by simp [State.reset, LinkBlock.start, SupplyBlock.start],
    by simp [State.reset, SupplyBlock.start]⟩

theorem reset_converter : State.reset.ConverterSound := by
  constructor <;> simp [State.reset, ConverterBlock.blank, LinkBlock.start, ExposureBlock.blank, Sources.empty,
    ConverterBlock.servesSpot, Burst.flight]

theorem reset_store : State.reset.StoreSound := by
  constructor <;> simp [State.reset, StoreBlock.blank, ExposureBlock.blank, Areas.empty, SupplyBlock.start]

theorem reset_exposure : State.reset.ExposureSound := by
  constructor <;> simp [State.reset, ExposureBlock.blank]

theorem reset_captures : State.reset.CapturesSound := by
  constructor <;> simp [State.reset, TimebaseBlock.start, ConverterBlock.blank, Burst.flight, Areas.empty, StoreBlock.blank]

/-- Settles O3: the blank blocks and the power-on timebase and link are sound, block by block. -/
theorem resetIsSound : Obligations.ResetIsSound where
  faults := FaultsSound.start _ _
  table := emptyTable_sound _
  schedule := reset_schedule
  captures := reset_captures
  radio := reset_radio
  converter := reset_converter
  custody := blank_custody rfl rfl rfl
  store := reset_store
  exposure := reset_exposure
  episodes := fun k hk => by simp [State.reset, StoreBlock.blank] at hk

/-- Settles O4: each value is the one that the reset state is written with. -/
theorem resetValues : Obligations.ResetValues :=
  ⟨rfl, rfl, rfl, rfl, rfl, rfl, rfl, rfl, rfl, rfl, rfl, rfl, rfl, rfl, rfl, rfl, rfl, rfl⟩

/-! ## A reply placed -/

section
variable (r : Reply) (busy : Bool) {s : State}

/-- With the transceiver off a reply is discarded at once (R107). -/
theorem placeReply_of_off (he : s.lc.enable = false) : placeReply r busy s = s := by
  simp [placeReply, he]

variable (he : s.lc.enable = true)
include he

/-- A reply placed behind a transmitter at work waits in the empty slot (R114). -/
theorem placeReply_of_room (ht : s.lc.tx ≠ .idle) (hr : s.lc.replySlot = none) :
    placeReply r busy s = { s with lc := { s.lc with replySlot := some ⟨r, replyFrame r s, s.now⟩ } } := by
  simp [placeReply, he, hr, serve_of_not_idle, ht]

/-- A reply placed behind a transmitter at work replaces the one that waits, which is dropped, counted and noted; a
backoff for it begins its senses anew (R114, R119, R181). -/
theorem placeReply_of_full {old : PlacedReply} (ht : s.lc.tx ≠ .idle) (hr : s.lc.replySlot = some old) :
    placeReply r busy s =
      noteNow .replyDropped (1 :: serialBytes old.reply.asker.reader)
        { s with lc := { s.lc with
            replySlot := some ⟨r, replyFrame r s, s.now⟩
            attempts := if s.lc.tx = .backoff ∧ s.lc.served = some .reply then 0 else s.lc.attempts
            counters := { s.lc.counters with repliesDropped := bump s.lc.counters.repliesDropped } } } := by
  simp [placeReply, he, hr, restartAttempts_eq, serve, ht, dropped, counting, noteNow, note, State.now, DropCause.code]

variable (ht : s.lc.tx = .idle) (hr : s.lc.replySlot = none) (hb : s.lc.beaconSlot = none)
include ht hr hb

/-- An IDLE transmitter with both slots empty senses at once for a reply placed (R115). -/
theorem placeReply_of_idle :
    placeReply r busy s = sense busy { s with lc := { s.lc with
      tx := .sense, served := some .reply, attempts := 0, replySlot := some ⟨r, replyFrame r s, s.now⟩ } } := by
  simp [placeReply, he, ht, hr, hb, serve, chooseSlot]

/-- On an idle channel the reply is sent at once (R116, R118). -/
theorem placeReply_of_idle_channel :
    placeReply r false s =
      { s with
        lc := { s.lc with
          tx := .sending, served := some .reply, attempts := 0, onAir := some ⟨.reply, replyFrame r s⟩ }
        timers := { s.timers with tx := 80 } } := by
  rw [placeReply_of_idle r false he ht hr hb]
  simp [sense, startTransmission, hr]

/-- On a busy channel the first sense counts, and the transmitter backs off (R116, R117, R119). -/
theorem placeReply_of_busy_channel :
    placeReply r true s =
      { s with
        lc := { s.lc with
          tx := .backoff, served := some .reply, attempts := 1
          replySlot := some ⟨r, replyFrame r s, s.now⟩, generator := lfsrStep s.lc.generator
          counters := { s.lc.counters with busySenses := bump s.lc.counters.busySenses } }
        timers := { s.timers with tx := 4 * (((lfsrStep s.lc.generator).toNat % 8 + 1) * 8) } } := by
  rw [placeReply_of_idle r true he ht hr hb]
  simp [sense, senseBusy, counting, backoffMs]

end

/-- Settles O21: the cases of the enable line, the transmitter, the slot and the channel. -/
theorem replyPlaced : Obligations.ReplyPlaced := by
  intro r busy s
  refine ⟨placeReply_of_off r busy, fun he => placeReply_of_room r busy he, fun old he => placeReply_of_full r busy he, ?_, ?_⟩
  · intro he ht hr hb hbusy
    rw [hbusy]
    exact placeReply_of_idle_channel r he ht hr hb
  · intro he ht hr hb hbusy
    rw [hbusy]
    exact placeReply_of_busy_channel r he ht hr hb

/-! ## QUERY -/

section
variable {q : QueryFrame} {page : Byte} {s : State} (h : s.Takes .query (queryCommand q page)) (i : Instr) (busy : Bool)
  (hi : readerCommand i = some (.query, queryCommand q page, busy))
include h hi

/-- A QUERY taken is answered by the page code and the index that its two payload bytes hold (R151). -/
theorem exec_query :
    exec i s = .next (takeQuery ⟨q.reader, q.seq⟩ page.toNat q.index.toNat busy s.taken) := by
  rw [exec_taken h i busy hi]
  simp [dispatchCommand, queryCommand, askerOf, fieldAt, ofBytes]

end

theorem inCustody_of_blank (who : Asker) (busy : Bool) {s : State} (page : State) (h : s.cu.custody = .blank) :
    inCustody who busy s page = answer who .notCommissioned [] busy s := by
  simp [inCustody, h]

theorem inCustody_of_not_blank (who : Asker) (busy : Bool) {s : State} (page : State) (h : s.cu.custody ≠ .blank) :
    inCustody who busy s page = page := by
  simp [inCustody, h]

section
variable {who : Asker} {page index : Nat} {busy : Bool} {s : State} {payload : Option (List Byte)}

/-- An indexed page whose index is in range is answered with its content (R151). -/
theorem takeQuery_of_content {bs : List Byte}
    (hq : takeQuery who page index busy s = answerIndexed who page payload busy s) (hp : payload = some bs) :
    takeQuery who page index busy s = placeReply ⟨who, .ok, page, bs⟩ busy s := by
  rw [hq, hp]
  rfl

/-- An indexed page whose index is out of range answers BAD_INDEX (R151, step 3). -/
theorem takeQuery_of_bad_index
    (hq : takeQuery who page index busy s = answerIndexed who page payload busy s) (hp : payload = none) :
    takeQuery who page index busy s = placeReply ⟨who, .badIndex, 0, []⟩ busy s := by
  rw [hq, hp]
  rfl

/-- From PRECOOL on the pages of the custody are answered as the others are (R151, step 2). -/
theorem takeQuery_in_custody {t : State} (hb : s.cu.custody ≠ .blank)
    (hq : takeQuery who page index busy s = inCustody who busy s t) : takeQuery who page index busy s = t := by
  rw [hq, inCustody_of_not_blank _ _ _ hb]

end

theorem episodePage_of_stored {index : Nat} {s : State} {e : Episode} (hi : index < s.es.storedCount)
    (he : s.nv.episodes[index]? = some (some e)) : episodePage index s = some e.bytes := by
  simp [episodePage, hi, he]

/-- Settles O25: each page code reaches its page, formed on the counted frame. -/
theorem queryAnswered : Obligations.QueryAnswered := by
  intro q busy s
  refine ⟨fun hb => ⟨fun h => ?_, fun h => ?_, fun h page hp => ?_, fun h e hi he => ?_, fun h page hp => ?_, fun h => ?_,
    fun h r hr => ?_⟩, fun h => ?_, fun h slot hs => ?_, fun h => ?_, fun h hi => ?_, fun h hi => ?_, fun h hi => ?_⟩
  all_goals rw [exec_query h _ busy rfl]
  all_goals refine congrArg _ ?_
  all_goals dsimp only
  · exact takeQuery_in_custody hb rfl
  · exact takeQuery_in_custody hb rfl
  · exact takeQuery_of_content (payload := legPage q.index.toNat s) (takeQuery_in_custody hb rfl) hp
  · exact takeQuery_of_content (payload := episodePage q.index.toNat s) (takeQuery_in_custody hb rfl)
      (episodePage_of_stored hi he)
  · exact takeQuery_of_content (payload := openPage q.index.toNat s) (takeQuery_in_custody hb rfl) hp
  · exact takeQuery_in_custody hb rfl
  · exact takeQuery_of_content (payload := historyPage q.index.toNat s) (takeQuery_in_custody hb rfl)
      (by simp [historyPage, hr])
  · rfl
  · exact takeQuery_of_content (payload := peersPage q.index.toNat s) rfl (by simp [peersPage, hs])
  · rfl
  · exact takeQuery_of_content (payload := statusPage q.index.toNat s.taken) rfl (by rw [hi]; rfl)
  · exact takeQuery_of_content (payload := statusPage q.index.toNat s.taken) rfl (by rw [hi]; rfl)
  · exact takeQuery_of_content (payload := statusPage q.index.toNat s.taken) rfl (by rw [hi]; rfl)

/-- A page code that names no page answers BAD_INDEX (R151). -/
theorem takeQuery_of_no_page (who : Asker) {page : Nat} (index : Nat) (busy : Bool) (s : State)
    (h : page = 0 ∨ 11 < page) : takeQuery who page index busy s = answer who .badIndex [] busy s := by
  match page, h with
  | 0, _ => rfl
  | k + 12, _ => rfl

theorem openPage_of_out_of_range {index : Nat} {s : State} (h : 4 ≤ index) : openPage index s = none := by
  match index, h with
  | k + 4, _ => rfl

theorem statusPage_of_out_of_range {index : Nat} {s : State} (h : 3 ≤ index) : statusPage index s = none := by
  match index, h with
  | k + 3, _ => rfl

/-- Settles O26: each page code reaches its refusal, in BLANK before the index is looked at. -/
theorem queryRefused : Obligations.QueryRefused := by
  intro q busy s
  refine ⟨fun page h hpage => ?_, fun hb => ⟨fun h => ?_, fun h => ?_, fun h => ?_, fun h => ?_, fun h => ?_, fun h => ?_,
    fun h => ?_⟩, fun hb => ⟨fun h hi => ?_, fun h hi => ?_, fun h hi => ?_, fun h hi => ?_⟩, fun h hi => ?_, fun h hi => ?_⟩
  all_goals rw [exec_query h _ busy rfl]
  all_goals refine congrArg _ ?_
  case refine_1 => exact takeQuery_of_no_page _ _ _ _ (hpage.imp (by rintro rfl; rfl) id)
  iterate 7 exact inCustody_of_blank _ _ _ hb
  · exact takeQuery_of_bad_index (payload := legPage q.index.toNat s) (takeQuery_in_custody hb rfl) (if_neg (by omega))
  · exact takeQuery_of_bad_index (payload := episodePage q.index.toNat s) (takeQuery_in_custody hb rfl) (if_neg (by omega))
  · exact takeQuery_of_bad_index (payload := openPage q.index.toNat s) (takeQuery_in_custody hb rfl)
      (openPage_of_out_of_range hi)
  · exact takeQuery_of_bad_index (payload := historyPage q.index.toNat s) (takeQuery_in_custody hb rfl)
      (by simp [historyPage, hi])
  · exact takeQuery_of_bad_index (payload := peersPage q.index.toNat s) rfl (by simp [peersPage, hi])
  · exact takeQuery_of_bad_index (payload := statusPage q.index.toNat s.taken) rfl (statusPage_of_out_of_range hi)

/-! ## A beacon of the own serial -/

/-- Settles O35. -/
theorem ownSerialIsDiscarded : Obligations.OwnSerialIsDiscarded := by
  intro b quality s hr ht hb
  rw [exec_beacon hr ht]
  simp [takeBeacon, hb]

/-! ## What a QUERY leaves -/

/-- A reader command's row is its command frame received. -/
theorem exec_reader_eq {i : Instr} {kind : CommandKind} {f : CommandFrame} {busy : Bool}
    (hi : readerCommand i = some (kind, f, busy)) (s : State) : exec i s = effect (receiveCommand kind f busy) s := by
  cases i <;> simp only [readerCommand, Option.some.injEq, Prod.mk.injEq, reduceCtorEq] at hi <;>
    obtain ⟨rfl, rfl, rfl⟩ := hi <;> rfl

/-- The transmitter's work leaves the periods of the burst and of the store. -/
structure SamePeriods (s t : State) : Prop where
  burst : t.timers.burst = s.timers.burst
  store : t.timers.store = s.timers.store

theorem SamePeriods.of_eq {s t : State} (h : t.timers = s.timers) : SamePeriods s t := ⟨by rw [h], by rw [h]⟩

theorem sense_periods (busy : Bool) (s : State) : SamePeriods s (sense busy s) := by
  cases busy
  · unfold sense startTransmission
    simp only [Bool.false_eq_true, if_false]
    split
    · split <;> exact ⟨rfl, rfl⟩
    · split <;> exact ⟨rfl, rfl⟩
    · exact ⟨rfl, rfl⟩
  · unfold sense senseBusy
    simp only [if_true]
    split
    · split <;> exact .of_eq (by simp)
    · exact ⟨rfl, rfl⟩

theorem serve_periods (busy : Bool) (s : State) : SamePeriods s (serve busy s) := by
  unfold serve
  split
  · split
    · exact ⟨(sense_periods busy _).burst, (sense_periods busy _).store⟩
    · exact ⟨rfl, rfl⟩
  · exact ⟨rfl, rfl⟩

theorem placeReply_periods (r : Reply) (busy : Bool) (s : State) : SamePeriods s (placeReply r busy s) := by
  unfold placeReply
  split
  · refine SamePeriods.mk ((serve_periods busy _).burst.trans ?_) ((serve_periods busy _).store.trans ?_)
    all_goals
      dsimp only
      split <;> simp
  · exact ⟨rfl, rfl⟩

/-- What a command that only answers leaves, the fault codes already set among it. -/
structure OnlyReplies (s t : State) : Prop where
  cu : t.cu = s.cu
  mc : t.mc = s.mc
  tb : t.tb = s.tb
  ie : t.ie = s.ie
  nt : t.nt = s.nt
  es : t.es = s.es
  nv : t.nv = s.nv
  sticky : s.sf.sticky ||| t.sf.sticky = t.sf.sticky
  supply : t.sf.supply = s.sf.supply ∧ t.sf.activity = s.sf.activity ∧ t.sf.haltPending = s.sf.haltPending
  powered : t.powered = s.powered
  enable : t.lc.enable = s.lc.enable
  periods : SamePeriods s t

theorem OnlyReplies.refl (s : State) : OnlyReplies s s :=
  ⟨rfl, rfl, rfl, rfl, rfl, rfl, rfl, BitVec.or_self, ⟨rfl, rfl, rfl⟩, rfl, rfl, ⟨rfl, rfl⟩⟩

theorem OnlyReplies.trans {s t u : State} (h : OnlyReplies s t) (g : OnlyReplies t u) : OnlyReplies s u where
  cu := g.cu.trans h.cu
  mc := g.mc.trans h.mc
  tb := g.tb.trans h.tb
  ie := g.ie.trans h.ie
  nt := g.nt.trans h.nt
  es := g.es.trans h.es
  nv := g.nv.trans h.nv
  sticky := by rw [← g.sticky, ← BitVec.or_assoc, h.sticky]
  supply := ⟨g.supply.1.trans h.supply.1, g.supply.2.1.trans h.supply.2.1, g.supply.2.2.trans h.supply.2.2⟩
  powered := g.powered.trans h.powered
  enable := g.enable.trans h.enable
  periods := ⟨g.periods.burst.trans h.periods.burst, g.periods.store.trans h.periods.store⟩

theorem counting_onlyReplies (g : LinkCounters → LinkCounters) (s : State) : OnlyReplies s (counting g s) :=
  ⟨rfl, rfl, rfl, rfl, rfl, rfl, rfl, BitVec.or_self, ⟨rfl, rfl, rfl⟩, rfl, rfl, ⟨rfl, rfl⟩⟩

theorem clearFaultDetail_onlyReplies (s : State) : OnlyReplies s (clearFaultDetail s) :=
  ⟨rfl, rfl, rfl, rfl, rfl, rfl, rfl, BitVec.or_self, ⟨rfl, rfl, rfl⟩, rfl, rfl, ⟨rfl, rfl⟩⟩

theorem placeReply_onlyReplies (r : Reply) (busy : Bool) (s : State) : OnlyReplies s (placeReply r busy s) :=
  ⟨by simp, by simp, by simp, by simp, by simp, by simp, by simp, (placeReply_notes r busy s).sticky,
    (placeReply_notes r busy s).supply, by simp, by simp, placeReply_periods r busy s⟩

theorem answerIndexed_onlyReplies (who : Asker) (page : Nat) (payload : Option (List Byte)) (busy : Bool) (s : State) :
    OnlyReplies s (answerIndexed who page payload busy s) := by
  unfold answerIndexed
  split <;> exact placeReply_onlyReplies ..

theorem takeQuery_onlyReplies (who : Asker) (page index : Nat) (busy : Bool) (s : State) :
    OnlyReplies s (takeQuery who page index busy s) := by
  have custody : ∀ t : State, OnlyReplies s t → OnlyReplies s (inCustody who busy s t) := by
    intro t ht
    unfold inCustody
    split
    · exact placeReply_onlyReplies ..
    · exact ht
  unfold takeQuery
  split
  case h_10 => exact (clearFaultDetail_onlyReplies s).trans (placeReply_onlyReplies ..)
  case h_3 | h_12 => exact placeReply_onlyReplies ..
  case h_9 | h_11 => exact answerIndexed_onlyReplies ..
  case h_1 | h_2 | h_7 => exact custody _ (placeReply_onlyReplies ..)
  all_goals exact custody _ (answerIndexed_onlyReplies ..)

theorem receiveQuery_onlyReplies (f : CommandFrame) (busy : Bool) (s : State) :
    OnlyReplies s (receiveCommand .query f busy s) := by
  have counted : ∀ g, OnlyReplies s (counting g (countGood s)) := fun g =>
    (counting_onlyReplies _ s).trans (counting_onlyReplies g _)
  unfold receiveCommand delivered
  split
  · unfold examineCommand
    dsimp only
    split
    · exact counted _
    · split
      · exact (counted _).trans (placeReply_onlyReplies ..)
      · split
        · exact (counted _).trans (takeQuery_onlyReplies ..)
        · exact (counted _).trans (placeReply_onlyReplies ..)
  · exact .refl s

/-- Settles O27: a QUERY counts its frame and places one reply, whatever the answer. -/
theorem queriesOnlyRead : Obligations.QueriesOnlyRead := by
  intro i f busy s t hi ht
  have kept : OnlyReplies s t := by
    rw [exec_reader_eq hi, effect_eq] at ht
    injection ht with ht
    subst ht
    split
    · exact receiveQuery_onlyReplies f busy s
    · exact .refl s
  obtain ⟨hcu, hmc, htb, hie, hnt, hes, hnv, hsticky, ⟨hsupply, hactivity, hpending⟩, hpowered, henable, ⟨hburst, hstore⟩⟩ := kept
  exact ⟨hcu, hmc, htb, hie, hnt, hes, hnv, hsticky, hsupply, hactivity, hpending, hpowered, henable, hburst, hstore⟩

end Sys2Proof.Machine
end

section
/-! SUPPORT. Frames as bytes: a number laid out and read back, the CRC of R120 over a whole frame, a frame received as the
command it spells, and the frames that are turned away; with the settled statements beside them. -/

namespace Sys2Proof.Machine

/-! ## Numbers as bytes -/

@[simp] theorem beBytes_length (k v : Nat) : (beBytes k v).length = k := by
  induction k with
  | zero => rfl
  | succ k ih => simp [beBytes, ih]

theorem foldl_bytes (bs : List Byte) (a : Nat) :
    bs.foldl (fun acc b => acc * 256 + b.toNat) a = a * 256 ^ bs.length + ofBytes bs := by
  induction bs generalizing a with
  | nil => simp [ofBytes]
  | cons b rest ih =>
    unfold ofBytes
    rw [List.foldl_cons, ih, List.foldl_cons, ih (0 * 256 + b.toNat), List.length_cons]
    ring

theorem ofBytes_cons (b : Byte) (bs : List Byte) : ofBytes (b :: bs) = b.toNat * 256 ^ bs.length + ofBytes bs := by
  unfold ofBytes
  rw [List.foldl_cons, foldl_bytes]
  simp [ofBytes]

theorem ofBytes_beBytes (k v : Nat) : ofBytes (beBytes k v) = v % 256 ^ k := by
  induction k with
  | zero => simp [beBytes, ofBytes, Nat.mod_one]
  | succ k ih =>
    rw [beBytes, ofBytes_cons, ih, beBytes_length, BitVec.toNat_ofNat, pow_succ 256 k, Nat.mod_mul, Nat.add_comm,
      Nat.mul_comm]

/-- A number that fits its width is read back as it was laid out. -/
theorem ofBytes_toNat (k : Nat) (x : BitVec (8 * k)) : ofBytes (beBytes k x.toNat) = x.toNat := by
  rw [ofBytes_beBytes, Nat.mod_eq_of_lt]
  calc x.toNat < 2 ^ (8 * k) := x.isLt
    _ = 256 ^ k := by rw [pow_mul]; rfl

theorem serialOf_bytes (x : Serial) : serialOf (serialBytes x) = x := by
  unfold serialOf serialBytes
  rw [ofBytes_toNat 4 x, BitVec.ofNat_toNat, BitVec.setWidth_eq]

theorem word_bytes (x : BitVec 16) : BitVec.ofNat 16 (ofBytes (beBytes 2 x.toNat)) = x := by
  rw [ofBytes_toNat 2 x, BitVec.ofNat_toNat, BitVec.setWidth_eq]

/-! ## The CRC over a whole frame -/

theorem withCrc_agrees {bs : List Byte} (h : bs ≠ []) : crcAgrees (withCrc bs) = true := by
  have hl : 0 < bs.length := List.length_pos_iff.mpr h
  have hd : (withCrc bs).length - 2 = bs.length := by simp [withCrc]
  unfold crcAgrees
  rw [hd]
  simp only [withCrc, List.drop_left, List.take_left, ofBytes_toNat 2 (crc16 bs)]
  simp
  omega

/-- As long as no bit leaves at the top the register only shifts. -/
theorem crcShift_of_small {k : Nat} {x : BitVec 16} (h : x.toNat * 2 ^ k < 2 ^ 16) : crcShift k x = x <<< k := by
  induction k generalizing x with
  | zero => simp [crcShift]
  | succ k ih =>
    have hpow : 0 < 2 ^ k := Nat.two_pow_pos k
    have hx : x.toNat * 2 * 2 ^ k < 2 ^ 16 := by rw [Nat.mul_assoc, ← Nat.pow_succ']; exact h
    have hlt : x.toNat * 2 < 2 ^ 16 := lt_of_le_of_lt (Nat.le_mul_of_pos_right _ hpow) hx
    have hmsb : x.msb = false := by
      rw [BitVec.msb_eq_decide]
      simp
      omega
    have hshift : (x <<< 1).toNat = x.toNat * 2 := by
      rw [BitVec.toNat_shiftLeft, Nat.shiftLeft_eq, pow_one, Nat.mod_eq_of_lt hlt]
    rw [crcShift, hmsb, if_neg (by simp), ih (by rw [hshift]; exact hx), ← BitVec.shiftLeft_add, Nat.add_comm]

/-- The CRC's two bytes, high byte first (R120). -/
theorem beBytes_word (c : BitVec 16) : beBytes 2 c.toNat = [(c >>> 8).setWidth 8, c.setWidth 8] := by
  simp only [beBytes, List.cons.injEq, and_true]
  constructor
  · apply BitVec.eq_of_toNat_eq
    simp [Nat.shiftRight_eq_div_pow]
  · apply BitVec.eq_of_toNat_eq
    simp

/-- The register's own high byte entered leaves its low byte, shifted up. -/
theorem crcByte_high (c : BitVec 16) : crcByte c ((c >>> 8).setWidth 8) = (c.setWidth 8).setWidth 16 <<< 8 := by
  have low : c ^^^ (((c >>> 8).setWidth 8).setWidth 16 <<< 8) = (c.setWidth 8).setWidth 16 := by
    ext i hi
    simp only [BitVec.getElem_xor, BitVec.getElem_shiftLeft, BitVec.getElem_setWidth, BitVec.getLsbD_setWidth]
    by_cases h : i < 8
    · simp [h, BitVec.getLsbD_eq_getElem hi]
    · have hsum : 8 + (i - 8) = i := by omega
      have hlow : i - 8 < 8 := by omega
      simp [h, hsum, hlow, BitVec.getLsbD_eq_getElem hi]
  unfold crcByte
  rw [BitVec.zeroExtend_eq_setWidth, low, crcShift_of_small]
  have hlow := (c.setWidth 8).isLt
  rw [BitVec.toNat_setWidth_of_le (by omega)]
  omega

theorem crcByte_low (x : Byte) : crcByte (x.setWidth 16 <<< 8) x = 0#16 := by
  unfold crcByte
  simp
  decide

/-- Settles O19: the register's own bytes entered shift it out. -/
theorem wholeFrameCrcIsZero : Obligations.WholeFrameCrcIsZero := by
  intro bytes
  unfold withCrc crc16
  rw [List.foldl_append, beBytes_word, List.foldl_cons, List.foldl_cons, List.foldl_nil, crcByte_high, crcByte_low]

/-! ## A frame read back -/

theorem serialBytes_eq (x : Serial) : ∃ a b c d, serialBytes x = [a, b, c, d] := ⟨_, _, _, _, rfl⟩

theorem word_eq (v : Nat) : ∃ a b, beBytes 2 v = [a, b] := ⟨_, _, rfl⟩

/-- A command frame as its bytes, one by one up to its payload (R122). -/
theorem commandBytes_eq (kind : Byte) (f : CommandFrame) :
    ∃ crc0 crc1, commandBytes kind f =
      kind :: (serialBytes f.reader ++ (serialBytes f.target ++ f.seq :: f.length :: (f.payload ++ [crc0, crc1]))) := by
  unfold commandBytes withCrc
  obtain ⟨a, b, h⟩ := word_eq (crc16 ([kind] ++ serialBytes f.reader ++ serialBytes f.target ++ [f.seq, f.length]
    ++ f.payload)).toNat
  exact ⟨a, b, by rw [h]; simp⟩

theorem commandOf_commandBytes (kind : Byte) (f : CommandFrame) : commandOf (commandBytes kind f) = f := by
  obtain ⟨crc0, crc1, h⟩ := commandBytes_eq kind f
  obtain ⟨r0, r1, r2, r3, hr⟩ := serialBytes_eq f.reader
  obtain ⟨t0, t1, t2, t3, ht⟩ := serialBytes_eq f.target
  rw [h, hr, ht]
  have hreader : serialOf [r0, r1, r2, r3] = f.reader := hr ▸ serialOf_bytes f.reader
  have htarget : serialOf [t0, t1, t2, t3] = f.target := ht ▸ serialOf_bytes f.target
  simp [commandOf, slice, hreader, htarget]

theorem commandBytes_headD (kind : Byte) (f : CommandFrame) : (commandBytes kind f).headD 0 = kind := by
  obtain ⟨crc0, crc1, h⟩ := commandBytes_eq kind f
  rw [h]
  rfl

theorem commandBytes_length (kind : Byte) (f : CommandFrame) : (commandBytes kind f).length = 13 + f.payload.length := by
  obtain ⟨crc0, crc1, h⟩ := commandBytes_eq kind f
  rw [h]
  simp [serialBytes]
  omega

theorem beaconOf_beaconBytes (b : BeaconFrame) : beaconOf (beaconBytes b) = b := by
  obtain ⟨s0, s1, s2, s3, hs⟩ := serialBytes_eq b.sender
  obtain ⟨c0, c1, hc⟩ := word_eq b.compartment.toNat
  obtain ⟨i0, i1, hi⟩ := word_eq b.interval.toNat
  obtain ⟨h0, h1, hh⟩ := word_eq b.tmax.toNat
  obtain ⟨l0, l1, hl⟩ := word_eq b.tmin.toNat
  have hsender : serialOf [s0, s1, s2, s3] = b.sender := hs ▸ serialOf_bytes b.sender
  have hcompartment : BitVec.ofNat 16 (ofBytes [c0, c1]) = b.compartment := hc ▸ word_bytes b.compartment
  have hinterval : BitVec.ofNat 16 (ofBytes [i0, i1]) = b.interval := hi ▸ word_bytes b.interval
  have htmax : BitVec.ofNat 16 (ofBytes [h0, h1]) = b.tmax := hh ▸ word_bytes b.tmax
  have htmin : BitVec.ofNat 16 (ofBytes [l0, l1]) = b.tmin := hl ▸ word_bytes b.tmin
  simp [beaconBytes, withCrc, hs, hc, hi, hh, hl, beaconOf, slice, hsender, hcompartment, hinterval, htmax, htmin]

theorem beaconBytes_headD (b : BeaconFrame) : (beaconBytes b).headD 0 = 0x1B#8 := rfl

theorem beaconBytes_length (b : BeaconFrame) : (beaconBytes b).length = 20 := rfl

theorem commandKindOf_byte (kind : CommandKind) : commandKindOf kind.byte = some kind := by
  cases kind <;> rfl

theorem CommandKind.byte_ne_beacon (kind : CommandKind) : kind.byte ≠ 0x1B#8 := by
  cases kind <;> decide

/-- A command frame's bytes reach the examination of R110 as the frame that they were laid out from. -/
theorem receiveFrame_commandBytes (kind : CommandKind) (f : CommandFrame) (quality : Byte) (busy : Bool) (s : State) :
    receiveFrame (commandBytes kind.byte f) quality busy s = examineCommand kind f busy (countGood s) := by
  have hcrc : crcAgrees (commandBytes kind.byte f) = true := withCrc_agrees (by simp)
  have hlen : ¬ (commandBytes kind.byte f).length < 13 := by rw [commandBytes_length]; omega
  simp only [receiveFrame, dispatchFrame, hcrc, commandBytes_headD, kind.byte_ne_beacon, commandKindOf_byte, hlen,
    commandOf_commandBytes, if_true, if_false]

theorem receiveFrame_beaconBytes (b : BeaconFrame) (quality : Byte) (busy : Bool) (s : State) :
    receiveFrame (beaconBytes b) quality busy s = dispatchBeacon b quality (countGood s) := by
  have hcrc : crcAgrees (beaconBytes b) = true := withCrc_agrees (by simp)
  simp only [receiveFrame, dispatchFrame, hcrc, beaconBytes_headD, beaconBytes_length, beaconOf_beaconBytes, if_true]

/-- Settles O18: the bytes are read back as the frame, and the frame is received as its command. -/
theorem framesRunTheirCommands : Obligations.FramesRunTheirCommands := by
  refine ⟨fun i kind f busy quality s hi => ⟨_, ?_, exec_reader_eq hi s⟩, fun b quality busy s => ⟨_, ?_, rfl⟩⟩
  · simp only [exec, execFrameReceived, effect, delivered, receiveFrame_commandBytes, receiveCommand]
  · simp only [exec, execFrameReceived, effect, delivered, receiveFrame_beaconBytes]

/-! ## Frames turned away -/

section
variable {s : State} (h : s.Receives)
include h

theorem exec_frameReceived (frame : List Byte) (quality : Byte) (busy : Bool) :
    exec (.frameReceived frame quality busy) s = .next (receiveFrame frame quality busy s) := by
  simp [exec, execFrameReceived, effect, delivered, h.powered, h.hears]

end

/-- A kind byte that is no command's, as R122 numbers them. -/
theorem commandKindOf_eq_none {k : Byte} (h : k < 0x41#8 ∨ 0x46#8 < k) : commandKindOf k = none := by
  have hne : k ≠ 0x41#8 ∧ k ≠ 0x42#8 ∧ k ≠ 0x43#8 ∧ k ≠ 0x44#8 ∧ k ≠ 0x45#8 ∧ k ≠ 0x46#8 := by
    refine ⟨?_, ?_, ?_, ?_, ?_, ?_⟩ <;> bv_omega
  obtain ⟨h1, h2, h3, h4, h5, h6⟩ := hne
  simp [commandKindOf, h1, h2, h3, h4, h5, h6]

theorem exists_commandKindOf {k : Byte} (hlo : 0x41#8 ≤ k) (hhi : k ≤ 0x46#8) : ∃ kind, commandKindOf k = some kind := by
  have hk : k = 0x41#8 ∨ k = 0x42#8 ∨ k = 0x43#8 ∨ k = 0x44#8 ∨ k = 0x45#8 ∨ k = 0x46#8 := by bv_omega
  rcases hk with rfl | rfl | rfl | rfl | rfl | rfl <;> exact ⟨_, rfl⟩

section
variable {frame : List Byte} (quality : Byte) (busy : Bool) (s : State)

theorem dispatchFrame_of_no_kind (hb : frame.headD 0 ≠ 0x1B#8) (hk : commandKindOf (frame.headD 0) = none) :
    dispatchFrame frame quality busy s = discardFrame s := by
  simp only [dispatchFrame, hb, hk, if_false]

theorem dispatchFrame_of_beacon_length (hb : frame.headD 0 = 0x1B#8) (hl : frame.length ≠ 20) :
    dispatchFrame frame quality busy s = discardFrame s := by
  simp only [dispatchFrame, hb, hl, if_true, if_false]

theorem dispatchFrame_of_beacon_state {s : State} (hb : frame.headD 0 = 0x1B#8)
    (hc : s.cu.custody.takesBeacons = false) : dispatchFrame frame quality busy s = discardFrame s := by
  simp only [dispatchFrame, dispatchBeacon, hb, hc, if_true]
  split <;> rfl

theorem dispatchFrame_of_short (hlo : 0x41#8 ≤ frame.headD 0) (hhi : frame.headD 0 ≤ 0x46#8) (hl : frame.length < 13) :
    dispatchFrame frame quality busy s = discardFrame s := by
  obtain ⟨kind, hk⟩ := exists_commandKindOf hlo hhi
  have hb : frame.headD 0 ≠ 0x1B#8 := by bv_omega
  simp only [dispatchFrame, hb, hk, hl, if_true, if_false]

end

/-- A frame counted as good and then discarded (R108 to R110). -/
theorem discardFrame_countGood (s : State) : discardFrame (countGood s) = s.frameDiscarded := rfl

theorem busyState_eq_true {kind : CommandKind} {c : Custody} :
    busyState kind c = true ↔ c = .commissioning ∨ c = .erasing ∨ (c = .closing ∧ kind ≠ .query) := by
  cases c <;> simp [busyState]

/-- A command whose length does not fit is answered BAD_LENGTH (R110, step 5). -/
theorem examineCommand_of_bad_length {kind : CommandKind} {f : CommandFrame} (busy : Bool) {s : State}
    (ht : f.target = s.info.serial) (hb : busyState kind s.cu.custody = false)
    (hl : f.length.toNat ≠ f.payload.length ∨ 48 < f.payload.length ∨ lengthFits kind f.payload = false) :
    examineCommand kind f busy (countGood s) = placeReply ⟨askerOf f, .badLength, 0, []⟩ busy s.taken := by
  have hno : ¬ (f.length.toNat = f.payload.length ∧ f.payload.length ≤ 48 ∧ lengthFits kind f.payload = true) := by
    rintro ⟨h1, h2, h3⟩
    rcases hl with hl | hl | hl
    · exact hl h1
    · omega
    · simp [h3] at hl
  simp [examineCommand, countGood, counting, ht, hb, hno, answer, askerOf, State.taken]

theorem examineCommand_of_other_target (kind : CommandKind) {f : CommandFrame} (busy : Bool) {s : State}
    (ht : f.target ≠ s.info.serial) : examineCommand kind f busy (countGood s) = s.frameDiscarded := by
  simp [examineCommand, countGood, counting, ht, State.frameDiscarded]

theorem exec_of_not_hears {s : State} (h : s.hears = false) :
    (∀ i kind f busy, readerCommand i = some (kind, f, busy) → exec i s = .next s)
    ∧ (∀ frame quality busy, exec (.frameReceived frame quality busy) s = .next s)
    ∧ (∀ b quality, exec (.beacon b quality) s = .next s) := by
  refine ⟨fun i kind f busy hi => ?_, fun frame quality busy => ?_, fun b quality => ?_⟩
  · rw [exec_reader_eq hi]
    simp [effect, receiveCommand, delivered_of_not_hears, h]
  · simp [exec, execFrameReceived, effect, delivered_of_not_hears, h]
  · simp [exec, execBeacon, effect, delivered_of_not_hears, h]

/-- When the transceiver delivers (R107, chapter 6.2; log 51). -/
theorem hears_cases (s : State) :
    (s.lc.enable = false ∨ s.lc.tx = .wait → s.hears = false)
    ∧ (s.lc.enable = true → s.lc.tx ≠ .wait → s.lc.tx ≠ .sending → s.hears = true)
    ∧ (∀ a, s.lc.enable = true → s.lc.tx = .sending → s.lc.onAir = some a →
        s.hears = !Config.freeOnAir a.frame ⟨s.tb.interval, s.tb.phase⟩ s.timers.tx) := by
  refine ⟨fun h => ?_, fun he hw hs => ?_, fun a he hs ha => ?_⟩
  · rcases h with h | h <;> simp [State.hears, h]
  · simp [State.hears, he, hw, ownFrameOnAir_of_not_sending hs]
  · simp [State.hears, he, hs, ownFrameOnAir_of_sending hs ha, State.now]

/-- Settles O20: frame by frame and command by command, in the order of the checks. -/
theorem frameOrCommandTurnedAway : Obligations.FrameOrCommandTurnedAway := by
  refine ⟨fun frame quality busy s h => ⟨fun hc => ?_, fun hc hf => ?_⟩, fun i kind f busy s hi h => ⟨fun ht => ?_, fun ht hb => ?_,
    fun ht hb hl => ?_⟩, fun s => exec_of_not_hears, hears_cases⟩
  · rw [exec_frameReceived h, receiveFrame, hc]
    rfl
  · have hframe : receiveFrame frame quality busy s = dispatchFrame frame quality busy (countGood s) := by
      simp [receiveFrame, hc]
    rw [exec_frameReceived h, hframe, ← discardFrame_countGood]
    refine congrArg _ ?_
    rcases hf with ⟨hb, hk⟩ | ⟨hb, hl⟩ | ⟨hb, hcu⟩ | ⟨hlo, hhi, hl⟩
    · exact dispatchFrame_of_no_kind quality busy _ hb (commandKindOf_eq_none hk)
    · exact dispatchFrame_of_beacon_length quality busy _ hb hl
    · refine dispatchFrame_of_beacon_state quality busy hb ?_
      rcases hcu with hcu | hcu | hcu <;> simp [countGood_frame, hcu, Custody.takesBeacons]
    · exact dispatchFrame_of_short quality busy _ hlo hhi hl
  · rw [exec_reader h i kind f busy hi, examineCommand_of_other_target kind busy ht]
  · rw [exec_reader h i kind f busy hi, examineCommand_of_busy busy ht (busyState_eq_true.mpr hb)]
  · rw [exec_reader h i kind f busy hi, examineCommand_of_bad_length busy ht hb hl]

end Sys2Proof.Machine
end

section
/-! SUPPORT. The lengths of the pages and frames (R152 to R155), and the profile check of R21; with the settled statements
beside them. -/

namespace Sys2Proof.Machine

/-! ## Fields -/

@[simp] theorem tempBytes_length (t : Int) : (tempBytes t).length = 2 := rfl
@[simp] theorem serialBytes_length (x : Serial) : (serialBytes x).length = 4 := rfl
@[simp] theorem stickyBytes_length (set : BitVec 22) : (stickyBytes set).length = 3 := rfl
@[simp] theorem captureBytes_length (c : Capture) : c.bytes.length = 5 := rfl
@[simp] theorem optional3_length (n : Option Nat) : (optional3 n).length = 3 := rfl
@[simp] theorem figureBytes_length (f : Option Figures) : (figureBytes f).length = 4 := rfl
@[simp] theorem chargeBytes_length (c : Option Charges) : (chargeBytes c).length = 6 := rfl
@[simp] theorem withCrc_length (bs : List Byte) : (withCrc bs).length = bs.length + 2 := by simp [withCrc]

@[simp] theorem outcomeBytes_length (o : Option Outcome) : (outcomeBytes o).length = 3 := by
  rcases o with _ | (_ | _ | _ | _ | _) <;> rfl

@[simp] theorem riseBytes_length (r : Option RisePoint) : (riseBytes r).length = 7 := by
  cases r <;> rfl

@[simp] theorem linkCounters_length (c : LinkCounters) : c.bytes.length = 20 := by simp [LinkCounters.bytes]

/-! ## Records -/

@[simp] theorem profileBytes_length (p : Profile) : p.bytes.length = 30 := by simp [Profile.bytes]
@[simp] theorem episodeBytes_length (e : Episode) : e.bytes.length = 34 := by simp [Episode.bytes]
@[simp] theorem legBytes_length (l : Leg) : l.bytes.length = 38 := by simp [Leg.bytes]
@[simp] theorem intervalBytes_length (r : IntervalRecord) : r.bytes.length = 26 := by simp [IntervalRecord.bytes]

@[simp] theorem profileRecord_length (r : ProfileRecord) : r.bytes.length = 31 + r.consignment.length := by
  simp [ProfileRecord.bytes, idBytes]
  omega

theorem slotBytes_length (slot : Option Peer) : (slotBytes slot).length = if slot = none then 1 else 27 := by
  cases slot <;> simp [slotBytes]

/-! ## Pages -/

theorem pageA_length (c : Certificate) : c.pageA.length = 43 := by
  simp [Certificate.pageA, Certificate.contentA]

theorem pageB_length (c : Certificate) : c.pageB.length = 42 := by
  simp [Certificate.pageB, Certificate.contentB]

theorem statusPage0_length (s : State) : (statusPage0 s).length = 37 := by
  unfold statusPage0
  iterate 21 rw [List.length_append]
  simp only [beBytes_length, optional3_length, List.length_cons, List.length_nil]

theorem statusPage1_length (s : State) : (statusPage1 s).length = 36 := by
  unfold statusPage1
  cases s.mc.last <;> simp

theorem statusPage2_length (s : State) : (statusPage2 s).length = 35 := by
  simp [statusPage2]

theorem overflowPage_length (s : State) : (overflowPage s).length = 11 := by simp [overflowPage]

theorem faultsPage_length {s : State} (h : ∀ c, s.sf.context = some c → c.datum.length = 8) :
    (faultsPage s).length = 19 := by
  unfold faultsPage
  cases hc : s.sf.context with
  | none => simp
  | some c => simp [h c hc]

theorem legPage_length {s : State} {index : Nat} {page : List Byte} (h : legPage index s = some page) :
    page.length = if (legPlace index s).leg? = none then 1 else 39 := by
  unfold legPage at h
  split at h
  · cases h
    cases legPlace index s <;> simp [LegPlace.leg?]
  · cases h

theorem openPage_length {s : State} {page : List Byte} :
    (openPage 0 s = some page → page.length = if s.es.openExcursion = none then 1 else 35)
    ∧ (openPage 1 s = some page → page.length = if s.es.openGap = none then 1 else 35)
    ∧ (openPage 2 s = some page → page.length = if s.es.openCover = none then 1 else 35)
    ∧ (openPage 3 s = some page → page.length = if s.es.openLeg = none then 1 else 39) := by
  have episode : ∀ e : Option Episode, (openBytes (e.map (·.bytes))).length = if e = none then 1 else 35 := fun e => by
    cases e <;> simp [openBytes]
  have leg : ∀ l : Option Leg, (openBytes (l.map (·.bytes))).length = if l = none then 1 else 39 := fun l => by
    cases l <;> simp [openBytes]
  refine ⟨fun h => ?_, fun h => ?_, fun h => ?_, fun h => ?_⟩ <;> cases h
  · exact episode _
  · exact episode _
  · exact episode _
  · exact leg _

theorem openPage_length_le {s : State} {index : Nat} {page : List Byte} (h : openPage index s = some page) :
    page.length ≤ 39 := by
  obtain ⟨h0, h1, h2, h3⟩ := openPage_length (s := s) (page := page)
  have bound : ∀ (c : Prop) [Decidable c] (n : Nat), n ≤ 39 → (if c then 1 else n) ≤ 39 := fun c _ n hn => by
    split <;> omega
  match index, h with
  | 0, h => exact h0 h ▸ bound _ _ (by omega)
  | 1, h => exact h1 h ▸ bound _ _ (by omega)
  | 2, h => exact h2 h ▸ bound _ _ (by omega)
  | 3, h => exact h3 h ▸ bound _ _ (by omega)

theorem profilePage_length_le {s : State} (h : ∀ r, s.cu.commissioned = some r → r.consignment.length ≤ 16) :
    (profilePage s).length ≤ 47 := by
  unfold profilePage
  cases hr : s.cu.commissioned with
  | none => simp
  | some r =>
    have := h r hr
    simp
    omega

theorem statusPage_length_le {s : State} {index : Nat} {page : List Byte} (h : statusPage index s = some page) :
    page.length ≤ 37 := by
  have content : ∀ bs : List Byte, some bs = some page → bs.length ≤ 37 → page.length ≤ 37 := fun bs hbs hl => by
    rwa [← Option.some.inj hbs]
  match index, h with
  | 0, h => exact content _ h (statusPage0_length s).le
  | 1, h => exact content _ h ((statusPage1_length s).le.trans (by omega))
  | 2, h => exact content _ h ((statusPage2_length s).le.trans (by omega))

/-- A page of a reply, whatever its code and index (R151). -/
def State.IsPage (s : State) (index : Nat) (page : List Byte) : Prop :=
  page = (certificateNow s).pageA ∨ page = (certificateNow s).pageB ∨ page = profilePage s
    ∨ legPage index s = some page ∨ episodePage index s = some page ∨ openPage index s = some page
    ∨ page = overflowPage s ∨ historyPage index s = some page ∨ peersPage index s = some page
    ∨ page = faultsPage s ∨ statusPage index s = some page

/-- Every page fits the 48 bytes of a reply (R145). -/
theorem State.IsPage.length_le {s : State} {index : Nat} {page : List Byte} (h : s.IsPage index page)
    (hid : ∀ r, s.cu.commissioned = some r → r.consignment.length ≤ 16)
    (hdatum : ∀ c, s.sf.context = some c → c.datum.length = 8) : page.length ≤ 48 := by
  rcases h with rfl | rfl | rfl | h | h | h | rfl | h | h | rfl | h
  · rw [pageA_length]; omega
  · rw [pageB_length]; omega
  · have := profilePage_length_le hid; omega
  · rw [legPage_length h]; split <;> omega
  · unfold episodePage at h
    split at h
    · obtain ⟨e, _, rfl⟩ := Option.map_eq_some_iff.mp h
      simp
    · cases h
  · have := openPage_length_le h; omega
  · rw [overflowPage_length]; omega
  · obtain ⟨r, _, rfl⟩ := Option.map_eq_some_iff.mp h
    simp
  · obtain ⟨p, _, rfl⟩ := Option.map_eq_some_iff.mp h
    rw [slotBytes_length]
    split <;> omega
  · rw [faultsPage_length hdatum]; omega
  · have := statusPage_length_le h; omega

theorem replyFrame_length (r : Reply) (s : State) : (replyFrame r s).length = 15 + r.payload.length := by
  simp [replyFrame]
  omega

/-- Settles O28: layout by layout. -/
theorem pageLengths : Obligations.PageLengths :=
  ⟨fun c => ⟨pageA_length c, pageB_length c⟩, legBytes_length, episodeBytes_length, intervalBytes_length,
    fun p => slotBytes_length (some p), slotBytes_length none,
    fun s => ⟨statusPage0_length s, statusPage1_length s, statusPage2_length s, overflowPage_length s⟩,
    fun _ _ _ => legPage_length, fun _ _ => openPage_length, fun _ => faultsPage_length, profileBytes_length,
    profileRecord_length, beaconBytes_length, commandBytes_length, replyFrame_length, fun _ => by simp [liveAnswer],
    fun _ => rfl, fun _ _ _ hid hdatum h => State.IsPage.length_le h hid hdatum⟩

/-! ## The profile check -/

theorem signed16_ofNat (v : Nat) (h : v < 65536) : signed16 v = (BitVec.ofNat 16 v).toInt := by
  rw [← signed16_toNat, BitVec.toNat_ofNat, Nat.mod_eq_of_lt h]

theorem ofBytes_lt (bs : List Byte) : ofBytes bs < 256 ^ bs.length := by
  induction bs with
  | nil => simp [ofBytes]
  | cons b rest ih =>
    rw [ofBytes_cons, List.length_cons, pow_succ]
    have := b.isLt
    nlinarith

theorem fieldAt_two_lt (bs : List Byte) (at_ : Nat) : fieldAt bs at_ 2 < 65536 :=
  calc fieldAt bs at_ 2 < 256 ^ ((bs.drop at_).take 2).length := ofBytes_lt _
    _ ≤ 256 ^ 2 := Nat.pow_le_pow_right (by omega) (by simp)

/-- A field of the profile behind an ID of `n` bytes stands at its own offset of the payload. -/
theorem fieldAt_drop (payload : List Byte) (n at_ k : Nat) :
    fieldAt (payload.drop n) at_ k = ofBytes ((payload.drop (n + at_)).take k) := by
  simp [fieldAt, List.drop_drop]

theorem signedAt_drop (payload : List Byte) (n at_ : Nat) :
    signedAt (payload.drop n) at_ = (BitVec.ofNat 16 (ofBytes ((payload.drop (n + at_)).take 2))).toInt := by
  rw [signedAt, signed16_ofNat _ (fieldAt_two_lt _ _), fieldAt_drop]

theorem checkProfile_eq_none {payload : List Byte} :
    checkProfile payload = none ↔
      fieldAt payload 0 1 = 0 ∨ 16 < fieldAt payload 0 1
        ∨ (profileOf (payload.drop (1 + fieldAt payload 0 1))).compartment = 0
        ∨ clampTo (-3000) 3000 (profileOf (payload.drop (1 + fieldAt payload 0 1))).upper
            - clampTo (-3000) 3000 (profileOf (payload.drop (1 + fieldAt payload 0 1))).lower < 50 := by
  unfold checkProfile Profile.clamped
  dsimp only
  split
  · rename_i h
    simp only [reduceCtorEq, false_iff]
    omega
  · rename_i h
    simp only [true_iff]
    omega

theorem checkProfile_eq_some {payload : List Byte} {r : ProfileRecord} (h : checkProfile payload = some r) :
    r = ⟨(profileOf (payload.drop (1 + fieldAt payload 0 1))).clamped, (payload.drop 1).take (fieldAt payload 0 1)⟩
      ∧ (profileOf (payload.drop (1 + fieldAt payload 0 1))).compartment ≠ 0
      ∧ 50 ≤ (profileOf (payload.drop (1 + fieldAt payload 0 1))).clamped.upper
          - (profileOf (payload.drop (1 + fieldAt payload 0 1))).clamped.lower := by
  unfold checkProfile at h
  dsimp only at h
  split at h
  · rename_i hc
    cases h
    exact ⟨rfl, hc.2.2⟩
  · cases h

theorem headD_eq_field (payload : List Byte) : fieldAt payload 0 1 = (payload.headD 0).toNat := by
  cases payload with
  | nil => rfl
  | cons b rest => simp [fieldAt, ofBytes]

theorem getLsbD_field (bs : List Byte) (i : Nat) (hi : i < 8) :
    (BitVec.ofNat 8 (ofBytes bs)).getLsbD i = (ofBytes bs).testBit i := by
  rw [BitVec.getLsbD_ofNat, decide_eq_true hi, Bool.true_and]

/-- The profile stored, field by field from the payload: each at R20's offset behind the ID, with its width and its sign,
and clamped where it has a range (R20, R21). -/
theorem clamped_profileOf (payload : List Byte) (n : Nat) :
    let unsigned (at_ k : Nat) : Nat := ofBytes ((payload.drop (n + at_)).take k)
    let signed (at_ : Nat) : Int := (BitVec.ofNat 16 (unsigned at_ 2)).toInt
    (profileOf (payload.drop n)).clamped =
      { upper := clampTo (-3000) 3000 (signed 0), lower := clampTo (-3000) 3000 (signed 2)
        peak := clampTo (clampTo (-3000) 3000 (signed 0) + 50) 4000 (signed 4)
        warmBudget := min 1000000 (unsigned 6 4), coldBudget := min 1000000 (unsigned 10 4)
        gapAllowance := min 15 (unsigned 14 1), precoolLimit := max 1 (min 240 (unsigned 15 1))
        airUse := (unsigned 16 1).testBit 0, witnessUse := (unsigned 16 1).testBit 1
        airMargin := clampTo 0 300 (signed 17), witnessMargin := clampTo 0 300 (signed 19)
        qualityFloor := unsigned 21 1, riseThreshold := clampTo 10 500 (signed 22)
        disagreement := clampTo 50 500 (signed 24), compartment := unsigned 26 2, carrier := unsigned 28 2 } := by
  dsimp only
  unfold Profile.clamped profileOf
  simp only [fieldAt_drop, signedAt_drop, getLsbD_field _ 0 (by omega), getLsbD_field _ 1 (by omega),
    Nat.min_comm 1000000, Nat.min_comm 15, Nat.min_comm 240]

/-- The profile stored is in R20's ranges, when the chill range leaves 50 (R20, R21). -/
theorem clamped_ranges (p : Profile) (h : 50 ≤ p.clamped.upper - p.clamped.lower) :
    -3000 ≤ p.clamped.lower ∧ p.clamped.lower + 50 ≤ p.clamped.upper ∧ p.clamped.upper ≤ 3000
      ∧ p.clamped.upper + 50 ≤ p.clamped.peak ∧ p.clamped.peak ≤ 4000
      ∧ p.clamped.warmBudget ≤ 1000000 ∧ p.clamped.coldBudget ≤ 1000000 ∧ p.clamped.gapAllowance ≤ 15
      ∧ 1 ≤ p.clamped.precoolLimit ∧ p.clamped.precoolLimit ≤ 240
      ∧ 0 ≤ p.clamped.airMargin ∧ p.clamped.airMargin ≤ 300
      ∧ 0 ≤ p.clamped.witnessMargin ∧ p.clamped.witnessMargin ≤ 300
      ∧ 10 ≤ p.clamped.riseThreshold ∧ p.clamped.riseThreshold ≤ 500
      ∧ 50 ≤ p.clamped.disagreement ∧ p.clamped.disagreement ≤ 500 := by
  revert h
  unfold Profile.clamped clampTo
  dsimp only
  intro h
  refine ⟨?_, ?_, ?_, ?_, ?_, ?_, ?_, ?_, ?_, ?_, ?_, ?_, ?_, ?_, ?_, ?_, ?_, ?_⟩ <;> omega

/-- Settles O23: the check's one condition, negated for the refusals and with the clamped fields for what is stored. -/
theorem checkedProfileInRange : Obligations.CheckedProfileInRange := by
  intro payload
  refine ⟨checkProfile_eq_none, headD_eq_field payload, fieldAt_drop .., signedAt_drop .., signedAt_drop .., fun r hr => ?_⟩
  obtain ⟨rfl, hcompartment, hrange⟩ := checkProfile_eq_some hr
  obtain ⟨h1, h2, h3, h4, h5, h6, h7, h8, h9, h10, h11, h12, h13, h14, h15, h16, h17, h18⟩ := clamped_ranges _ hrange
  exact ⟨rfl, h1, h2, h3, h4, h5, h6, h7, h8, h9, h10, h11, h12, h13, h14, h15, h16, h17, h18, hcompartment,
    clamped_profileOf payload _⟩

end Sys2Proof.Machine
end

section
/-! SUPPORT. The commands that begin or end a burst or a consignment: an alert heard, LIVE, CLOSE and ERASE; with the settled
statements beside them. -/

namespace Sys2Proof.Machine

/-! ## Triggers -/

/-- A trigger that an IDLE converter takes starts a burst of its source alone (R23, R24). -/
theorem trigger_of_idle (src : Source) {s : State} (hd : s.discardsTriggers = false) (hb : s.mc.burst = .idle)
    (ht : s.mc.triggers = Sources.empty) (hw : s.lc.liveWaiting = none) :
    trigger src s =
      { s with
        mc := { s.mc with burst := .settling ⟨s.now, src.only, s.cu.custody.inService,
          (s.cu.commissioned.map (·.profile.airUse)).getD false⟩ }
        timers := { s.timers with burst := 8 } } := by
  cases src <;>
    simp [trigger, hd, startBurst, hb, ht, hw, Sources.union, Sources.empty, Source.only, Sources.nonempty, State.now]

/-- The burst that a trigger starts, whatever LIVE record waits (R23, R24). -/
theorem trigger_mc_of_idle (src : Source) {s : State} (hd : s.discardsTriggers = false) (hb : s.mc.burst = .idle)
    (ht : s.mc.triggers = Sources.empty) :
    (trigger src s).mc = { s.mc with burst := .settling ⟨s.now, src.only, s.cu.custody.inService,
      (s.cu.commissioned.map (·.profile.airUse)).getD false⟩ } := by
  cases src <;>
    simp [trigger, hd, startBurst, hb, ht, Sources.union, Sources.empty, Source.only, Sources.nonempty, State.now]

theorem Sources.union_alert (a : Sources) : a.union Source.alert.only = { a with alert := true } := by
  simp [Sources.union, Source.only]

theorem Sources.union_spot (a : Sources) : a.union Source.spot.only = { a with spot := true } := by
  simp [Sources.union, Source.only]

theorem discardsTriggers_eq_false {s : State} :
    s.discardsTriggers = false ↔ s.sf.activity = .running ∧ s.sf.haltPending = false := by
  unfold State.discardsTriggers
  cases s.sf.activity <;> simp

/-! ## A heard alert -/

theorem selectMode_mode (s : State) :
    (selectMode s).tb.mode = modeFor s.sf.supply s.tb.interval s.tb.fastUntil := by
  unfold selectMode
  dsimp only
  split
  · exact Eq.symm ‹_›
  · rfl

theorem selectMode_fastUntil (s : State) : (selectMode s).tb.fastUntil = s.tb.fastUntil := by
  rw [selectMode_tb]

theorem extendFast_of_good {s : State} (h : s.sf.supply = .good) :
    (extendFast s).tb.fastUntil = max s.tb.fastUntil (min 16777215 (s.tb.interval + 10))
      ∧ (extendFast s).tb.mode =
          if s.tb.interval < max s.tb.fastUntil (min 16777215 (s.tb.interval + 10)) then .fast else .steady := by
  unfold extendFast
  rw [if_pos h, selectMode_fastUntil, selectMode_mode]
  simp only [h, modeFor, satAdd, max24]
  exact ⟨trivial, rfl⟩

theorem extendFast_of_not_good {s : State} (h : s.sf.supply ≠ .good) : extendFast s = s := if_neg h

theorem takesBeacons_of_inService {c : Custody} (h : c.inService = true) : c.takesBeacons = true := by
  cases c <;> simp_all [Custody.inService, Custody.takesBeacons]

/-- Settles O36: the beacon is entered, the trigger is sent, and fast-until is extended on a timebase that both leave. -/
theorem heardAlertActs : Obligations.HeardAlertActs := by
  intro b quality s t l hr hs hb hflag hl hcomp ha hp ht
  have hmatch : s.alertMatches b = true := by simp [State.alertMatches, hflag, hl, hcomp]
  have hexec := exec_beacon (quality := quality) hr (takesBeacons_of_inService hs) (b := b)
  rw [ht, takeBeacon_of_foreign (s := s.beaconTaken) quality hb] at hexec
  have hact : t = extendFast (trigger .alert (enterBeacon b quality s.beaconTaken)) := by
    injection hexec with hexec
    rw [hexec]
    exact if_pos hmatch
  have hsupply := (enterBeacon_notes b quality s.beaconTaken).supply
  have hd : (enterBeacon b quality s.beaconTaken).discardsTriggers = false :=
    discardsTriggers_eq_false.mpr ⟨hsupply.2.1.trans ha, hsupply.2.2.trans hp⟩
  have hsf : (trigger .alert (enterBeacon b quality s.beaconTaken)).sf.supply = s.sf.supply := by
    rw [(trigger_frame _ _).2.2.2.2.2.2.2.1]
    exact hsupply.1
  subst hact
  refine ⟨fun hi he => ?_, fun hi => ?_, fun hg => ?_, fun hg => ?_⟩
  · simp [trigger_mc_of_idle .alert hd (by simpa using hi) (by simpa [Sources.empty] using he), Source.only, State.now, hs]
  · simp [trigger_of_burst .alert hd (by simpa using hi), Sources.union_alert]
  · obtain ⟨hfast, hmode⟩ := extendFast_of_good (hsf.trans hg)
    exact ⟨by simpa using hfast, by simpa using hmode⟩
  · rw [extendFast_of_not_good (by rwa [hsf])]
    simp

/-! ## LIVE and an abort -/

theorem takeLive_of_open (who : Asker) (busy : Bool) {s : State} (h : s.cu.custody ≠ .closed) :
    takeLive who busy s = trigger .spot (recordLive who s) := if_neg h

theorem recordLive_of_idle (who : Asker) {s : State} (h : s.mc.burst = .idle) :
    recordLive who s = { s with lc := { s.lc with liveInFlight := some who } } := if_pos h

theorem recordLive_of_room (who : Asker) {s : State} (h : s.mc.burst ≠ .idle) (hw : s.lc.liveWaiting = none) :
    recordLive who s = { s with lc := { s.lc with liveWaiting := some who } } := by
  simp [recordLive, h, hw]

theorem recordLive_of_full (who : Asker) {s : State} {old : Asker} (h : s.mc.burst ≠ .idle)
    (hw : s.lc.liveWaiting = some old) :
    recordLive who s = noteNow .replyDropped (1 :: serialBytes old.reader)
      { s with lc := { s.lc with
          liveWaiting := some who
          counters := { s.lc.counters with repliesDropped := bump s.lc.counters.repliesDropped } } } := by
  simp [recordLive, h, hw, dropped, counting, noteNow, note, State.now, DropCause.code]

theorem trigger_noteNow (src : Source) (code : FaultCode) (datum : List Byte) {s : State}
    (hd : s.discardsTriggers = false) (hb : s.mc.burst ≠ .idle) :
    trigger src (noteNow code datum s) =
      noteNow code datum { s with mc := { s.mc with triggers := s.mc.triggers.union src.only } } := by
  have hd' : (noteNow code datum s).discardsTriggers = false := hd
  rw [trigger_of_burst src hd' (by simpa using hb)]
  rfl

theorem Custody.inService_eq (c : Custody) :
    c.inService = decide (c = .precool ∨ c = .chilled ∨ c = .excursion ∨ c = .broken) := by
  cases c <;> rfl

section
variable (busy : Bool) {s : State} {fl : Flight} (hf : s.mc.burst.flight = some fl)
include hf

/-- An abort of the burst in flight, by what it serves (R29, R30). -/
theorem abortBurst_of_flight :
    abortBurst busy s =
      let idle : State := { s with mc := { s.mc with burst := .idle, triggers := Sources.empty } }
      if fl.sources.spot || s.mc.triggers.spot then abortLive busy idle else idle := by
  unfold abortBurst
  cases hb : s.mc.burst with
  | idle => rw [hb] at hf; cases hf
  | settling f => rw [hb] at hf; cases hf; rfl
  | converting f codes => rw [hb] at hf; cases hf; rfl

end

theorem abortBurst_of_idle (busy : Bool) {s : State} (h : s.mc.burst = .idle) : abortBurst busy s = s := by
  unfold abortBurst
  rw [h]

section
variable (busy : Bool) {s : State} {v w : Asker}

theorem abortLive_of_waiting (hw : s.lc.liveWaiting = some w) (hv : s.lc.liveInFlight = none) :
    abortLive busy s = answer w .aborted [] busy
      { s with lc := { s.lc with liveInFlight := none, liveWaiting := none } } := by
  simp [abortLive, hw, hv]

theorem abortLive_of_inFlight (hw : s.lc.liveWaiting = none) (hv : s.lc.liveInFlight = some v) :
    abortLive busy s = answer v .aborted [] busy
      { s with lc := { s.lc with liveInFlight := none, liveWaiting := none } } := by
  simp [abortLive, hw, hv]

theorem abortLive_of_both (hw : s.lc.liveWaiting = some w) (hv : s.lc.liveInFlight = some v) :
    abortLive busy s = dropped .reply .replaced (serialBytes v.reader) (answer w .aborted [] busy
      { s with lc := { s.lc with liveInFlight := none, liveWaiting := none } }) := by
  simp [abortLive, hw, hv]

end

/-- Settles O29: the LIVE record is kept and the trigger sent, case by case; the abort by what the burst serves. -/
theorem liveTaken : Obligations.LiveTaken := by
  refine ⟨fun f busy s h => ⟨fun hc => ?_, fun hc ha hp hb ht hw => ?_, fun hc ha hp hb => ?_⟩, fun busy s fl hf =>
    ⟨fun h1 h2 => ?_, fun hspot => ?_⟩, fun busy s h => abortBurst_of_idle busy h⟩
  · rw [exec_taken h (.live f busy) busy rfl]
    exact congrArg _ (if_pos hc)
  · have hd : (recordLive (askerOf f) s.taken).discardsTriggers = false := by
      rw [recordLive_of_idle _ (by simpa using hb)]
      exact discardsTriggers_eq_false.mpr ⟨ha, hp⟩
    rw [exec_taken h (.live f busy) busy rfl]
    simp only [dispatchCommand]
    rw [takeLive_of_open _ _ (by simpa using hc), recordLive_of_idle _ (by simpa using hb)] at *
    rw [trigger_of_idle .spot hd hb ht hw]
    simp [Source.only, State.now, Custody.inService_eq]
  · have hd : ∀ u : State, u.sf = s.sf → u.discardsTriggers = false := fun u hu =>
      discardsTriggers_eq_false.mpr ⟨hu ▸ ha, hu ▸ hp⟩
    rw [exec_taken h (.live f busy) busy rfl]
    simp only [dispatchCommand]
    rw [takeLive_of_open _ _ (by simpa using hc)]
    refine ⟨fun hw => ?_, fun old hw => ?_⟩
    · rw [recordLive_of_room (s := s.taken) _ hb hw, trigger_of_burst .spot, Sources.union_spot]
      · rfl
      · exact hd _ rfl
      · exact hb
    · rw [recordLive_of_full (s := s.taken) _ hb hw, trigger_noteNow .spot, Sources.union_spot]
      · rfl
      · exact hd _ rfl
      · exact hb
  · rw [abortBurst_of_flight busy hf]
    simp [h1, h2, Sources.empty]
  · rw [abortBurst_of_flight busy hf, if_pos (by simpa using hspot)]
    refine ⟨fun w hw hv => abortLive_of_waiting busy hw hv, fun v hw hv => abortLive_of_inFlight busy hw hv,
      fun v w hw hv => abortLive_of_both busy hw hv⟩

/-! ## CLOSE -/

theorem exec_close {f : CommandFrame} (busy : Bool) {s : State} (h : s.Takes .close f) :
    exec (.close f busy) s = .next (takeClose (askerOf f) busy s.taken) :=
  exec_taken h (.close f busy) busy rfl

theorem takeClose_of_service (who : Asker) (busy : Bool) {s : State} (h : s.cu.custody.inService = true) :
    takeClose who busy s = acceptClose who busy s := if_pos h

theorem takeClose_of_closed (who : Asker) (busy : Bool) {s : State} (h : s.cu.custody = .closed) :
    takeClose who busy s = answerPage who 1 (certificateNow s).pageA busy s := by
  simp [takeClose, h, Custody.inService]

theorem takeClose_of_blank (who : Asker) (busy : Bool) {s : State} (h : s.cu.custody = .blank) :
    takeClose who busy s = answer who .notCommissioned [] busy s := by
  simp [takeClose, h, Custody.inService]

theorem runDeferred_of_none {s : State} (h : s.ie.old = none) : runDeferred s = s := by
  unfold runDeferred
  rw [h]

theorem partialCloseNow_of_some {s : State} {acc : Accumulator} (h : s.ie.cur = some acc) :
    partialCloseNow s = { closeInterval true acc s with ie := { (closeInterval true acc s).ie with cur := none } } := by
  unfold partialCloseNow
  rw [h]

/-- A transmitter with an empty beacon slot keeps it empty, whatever it senses (R115, R116). -/
theorem serve_beaconSlot (busy : Bool) {s : State} (h : s.lc.beaconSlot = none) : (serve busy s).lc.beaconSlot = none := by
  unfold serve
  split
  · split
    · cases busy
      · unfold sense startTransmission
        simp only [Bool.false_eq_true, if_false]
        split
        · split <;> simp_all [transmitterIdle]
        · split <;> simp_all [transmitterIdle]
        · exact h
      · rename_i slot _
        unfold sense senseBusy
        simp only [if_true]
        split
        · cases slot <;> simp [dropped, noteNow, note, counting, transmitterIdle, clearSlot, h]
        · simp [counting, h]
    · exact h
  · exact h

theorem discardBeacon_beaconSlot (busy : Bool) (s : State) : (discardBeacon busy s).lc.beaconSlot = none := by
  unfold discardBeacon
  dsimp only
  split
  · exact serve_beaconSlot busy rfl
  · rfl

theorem enterClosing_beaconSlot (who : Asker) (busy : Bool) (s : State) :
    (enterClosing who busy s).lc.beaconSlot = none := discardBeacon_beaconSlot ..

@[simp] theorem enterClosing_nt (who : Asker) (busy : Bool) (s : State) : (enterClosing who busy s).nt = emptyTable := by
  simp [enterClosing]

theorem enterClosing_cu (who : Asker) (busy : Bool) (s : State) :
    (enterClosing who busy s).cu =
      { s.cu with custody := .closing, closing := closingRecords s.tb.interval s, held := some who } := by
  simp [enterClosing]

theorem enterClosing_es (who : Asker) (busy : Bool) (s : State) :
    (enterClosing who busy s).es = { s.es with openExcursion := none, openGap := none, openCover := none, openLeg := none } := by
  simp [enterClosing]

/-- The closing records of one kind after another, as R14 orders them. -/
theorem closingRecords_eq (n : Nat) (s : State) :
    closingRecords n s =
      (s.es.openExcursion.map (fun e => ClosingItem.episode (e.closeAt n))).toList
        ++ (s.es.openGap.map (fun e => ClosingItem.episode (e.closeAt n))).toList
        ++ (s.es.openCover.map (fun e => ClosingItem.episode (e.closeAt n))).toList
        ++ (s.es.openLeg.map (fun l => ClosingItem.leg { l with finish := some n })).toList
        ++ [.checkpoint, .certificate] := by
  unfold closingRecords openEpisodesClosed
  cases s.es.openExcursion <;> cases s.es.openGap <;> cases s.es.openCover <;> rfl

/-- A CLOSE addressed to the part in service passes every step of R110 once it is received. -/
theorem takes_close {f : CommandFrame} {s : State} (hr : s.Receives) (ht : f.target = s.info.serial) (hl : f.length = 0)
    (hp : f.payload = []) (hs : s.cu.custody.inService = true) : s.Takes .close f where
  receives := hr
  target := ht
  free := by
    revert hs
    cases s.cu.custody <;> simp [Custody.inService, busyState]
  counted := by simp [hl, hp]
  short := by simp [hp]
  fits := by simp [lengthFits, hp]

/-- The transmission goes on through an accepted CLOSE as it was (R13, R112, R118). -/
theorem acceptClose_transmission (who : Asker) (busy : Bool) {s : State} (h : s.lc.tx = .sending) :
    TransmissionKept s (acceptClose who busy s) := by
  have aborted := abortBurst_transmission busy h
  have closed := (aborted.trans (runDeferred_transmission _)).trans (partialCloseNow_transmission _)
  exact closed.trans (enterClosing_transmission who busy (closed.tx.trans h))

/-- Settles O30: the acceptance is the composition of R13's steps; the refusals are the other states' answers. -/
theorem closeTaken : Obligations.CloseTaken := by
  refine ⟨fun f busy s h hs => ?_, fun f busy s acc h hs hb ho hc => ?_, fun f busy s a hp he ht ha htarget hl hpay hs => ?_,
    fun f busy s h => ⟨fun hc => ?_, fun hc => ?_⟩⟩
  · rw [exec_close busy h, takeClose_of_service _ _ (by simpa using hs)]
    rfl
  · refine ⟨closeInterval true acc s.taken, acceptClose (askerOf f) busy s.taken, ?_, rfl, ?_⟩
    · rw [exec_close busy h, takeClose_of_service _ _ (by simpa using hs)]
    · have hpart : acceptClose (askerOf f) busy s.taken = enterClosing (askerOf f) busy
          { closeInterval true acc s.taken with ie := { (closeInterval true acc s.taken).ie with cur := none } } := by
        unfold acceptClose
        rw [abortBurst_of_idle busy (by simpa using hb), runDeferred_of_none (by simpa using ho),
          partialCloseNow_of_some (by simpa using hc)]
      have htb : (closeInterval true acc s.taken).tb = s.tb := by simp
      have hmc : (closeInterval true acc s.taken).mc = s.mc := by simp
      rw [hpart]
      generalize closeInterval true acc s.taken = u at htb hmc ⊢
      refine ⟨?_, ?_, ?_, ?_, enterClosing_beaconSlot .., ?_, ?_, ?_⟩
      · rw [enterClosing_cu, closingRecords_eq]
        simp only [htb]
      · rw [enterClosing_es]
      · simp
      · simp [emptyTable]
      · simpa using hmc
      · simpa using htb
      · simp
  · have hkept := acceptClose_transmission (askerOf f) busy (s := s.taken) ht
    have hhears := (hears_cases s).2.2 a he ht ha
    refine ⟨?_, by simp [enterClosing_cu], hkept.tx.trans ht, hkept.served, hkept.onAir.trans ha, hkept.period,
      enterClosing_beaconSlot .., hkept.sequence, hkept.dropped, hkept.sent⟩
    cases hair : Config.freeOnAir a.frame ⟨s.tb.interval, s.tb.phase⟩ s.timers.tx with
    | true => exact (exec_of_not_hears (by rw [hhears, hair]; rfl)).1 _ _ _ _ rfl
    | false =>
      have hr : s.Receives := ⟨hp, by rw [hhears, hair]; rfl⟩
      rw [exec_close busy (takes_close hr htarget hl hpay hs), takeClose_of_service _ _ (by simpa using hs)]
      rfl
  · rw [exec_close busy h, takeClose_of_closed _ _ (by simpa using hc)]
    rfl
  · rw [exec_close busy h, takeClose_of_blank _ _ (by simpa using hc)]
    rfl

/-- No LIVE record is left by an abort of a sound converter, which serves SPOT where one waits (R30, R114). -/
theorem abortBurst_live (busy : Bool) {s : State} (hidle : s.mc.burst = .idle → s.mc.triggers = Sources.empty)
    (hflight : s.lc.liveInFlight.isSome = s.mc.servesSpot) (hwaiting : s.lc.liveWaiting.isSome = s.mc.triggers.spot) :
    (abortBurst busy s).lc.liveInFlight = none ∧ (abortBurst busy s).lc.liveWaiting = none := by
  cases hf : s.mc.burst.flight with
  | none =>
    have hb : s.mc.burst = .idle := by
      cases hb : s.mc.burst <;> rw [hb] at hf <;> simp_all [Burst.flight]
    rw [abortBurst_of_idle busy hb]
    simp only [hidle hb, Sources.empty, ConverterBlock.servesSpot, hf] at hflight hwaiting
    exact ⟨by simpa using hflight, by simpa using hwaiting⟩
  | some fl =>
    rw [abortBurst_of_flight busy hf]
    dsimp only
    split
    · unfold abortLive
      dsimp only
      split <;> simp_all
    · rename_i hno
      simp only [ConverterBlock.servesSpot, hf] at hflight
      simp only [Bool.or_eq_true, not_or, Bool.not_eq_true] at hno
      simp only [hno.1, hno.2] at hflight hwaiting
      exact ⟨by simpa using hflight, by simpa using hwaiting⟩

/-- A close leaves the LIVE records. -/
theorem closeInterval_live (p : Bool) (acc : Accumulator) (s : State) :
    (closeInterval p acc s).lc.liveInFlight = s.lc.liveInFlight ∧ (closeInterval p acc s).lc.liveWaiting = s.lc.liveWaiting := by
  obtain ⟨c, hc⟩ := closeInterval_lc p acc s
  simp [hc]

theorem closings_live (s : State) :
    (partialCloseNow (runDeferred s)).lc.liveInFlight = s.lc.liveInFlight
      ∧ (partialCloseNow (runDeferred s)).lc.liveWaiting = s.lc.liveWaiting := by
  have deferred : (runDeferred s).lc.liveInFlight = s.lc.liveInFlight ∧ (runDeferred s).lc.liveWaiting = s.lc.liveWaiting := by
    unfold runDeferred
    split
    · exact closeInterval_live ..
    · exact ⟨rfl, rfl⟩
  rw [← deferred.1, ← deferred.2]
  generalize runDeferred s = u
  unfold partialCloseNow
  split
  · exact closeInterval_live ..
  · exact ⟨rfl, rfl⟩

theorem enterClosing_live (who : Asker) (busy : Bool) (s : State) :
    (enterClosing who busy s).lc.liveInFlight = s.lc.liveInFlight
      ∧ (enterClosing who busy s).lc.liveWaiting = s.lc.liveWaiting := by
  simp [enterClosing]

/-- Settles O31: each step of R13 empties its part, and no later one fills it again. -/
theorem closeLeavesNothingOpen : Obligations.CloseLeavesNothingOpen := by
  intro f busy s t hm h hs ht
  have htaken : s.taken.ConverterSound := ⟨hm.idle, hm.quiet, hm.inFlight, hm.waiting, hm.deferred⟩
  rw [exec_close busy h, takeClose_of_service _ _ (by simpa using hs)] at ht
  injection ht with ht
  subst ht
  have hmc := abortBurst_mc busy s.taken htaken
  have hlive := abortBurst_live busy htaken.idle htaken.inFlight htaken.waiting
  obtain ⟨hacc, hold⟩ := partialCloseNow_accumulators (runDeferred_old (abortBurst busy s.taken))
  obtain ⟨hl1, hl2⟩ := closings_live (abortBurst busy s.taken)
  obtain ⟨he1, he2⟩ := enterClosing_live (askerOf f) busy (partialCloseNow (runDeferred (abortBurst busy s.taken)))
  unfold acceptClose
  refine ⟨by simp [enterClosing_cu], by simp [hmc], by simp [hmc, Sources.empty], by simp [hmc], he1.trans (hl1.trans hlive.1),
    he2.trans (hl2.trans hlive.2), by simpa using hacc, by simpa using hold, ?_, ?_, ?_, ?_, by simp [emptyTable],
    enterClosing_beaconSlot .., by simp⟩
  all_goals rw [enterClosing_es]

/-! ## ERASE -/

theorem exec_erase {f : CommandFrame} (busy : Bool) {s : State} (h : s.Takes .erase f) :
    exec (.erase f busy) s = .next (takeErase (askerOf f) busy s.taken) :=
  exec_taken h (.erase f busy) busy rfl

theorem discardBeacon_of_none (busy : Bool) {s : State} (hb : s.lc.beaconSlot = none)
    (hs : s.lc.tx = .backoff → s.lc.served ≠ some .beacon) : discardBeacon busy s = s := by
  have hno : ¬ (s.lc.served = some .beacon ∧ s.lc.tx = .backoff) := fun h => hs h.2 h.1
  unfold discardBeacon
  simp only [hno, if_false, clearSlot]
  rw [← hb]

theorem modeFor_zero (supply : Supply) : modeFor supply 0 0 = if supply = .good then .steady else .lean := by
  cases supply <;> rfl

/-- The blocks at the completion of an erase that finds no beacon waiting (R17, R143; log 11). -/
theorem blankBlocks_of_quiet (busy : Bool) {s : State} (hb : s.lc.beaconSlot = none)
    (hs : s.lc.tx = .backoff → s.lc.served ≠ some .beacon) :
    (blankBlocks busy s).tb = { s.tb with
        interval := 0, fastUntil := 0, riseRef := none, riseBuffer := none, alertInterval := none
        mode := if s.sf.supply = .good then .steady else .lean
        buffer := (blankBlocks busy s).tb.buffer }
      ∧ (blankBlocks busy s).mc = ConverterBlock.blank ∧ (blankBlocks busy s).nt = emptyTable
      ∧ (blankBlocks busy s).nv = Areas.empty
      ∧ (blankBlocks busy s).lc = { s.lc with
          content := none, sequence := 0, liveInFlight := none, liveWaiting := none, counters := LinkCounters.zero }
      ∧ (blankBlocks busy s).sf = { s.sf with sticky := 0, context := none, multiple := false, unread := 0 } := by
  unfold blankBlocks
  dsimp only
  rw [discardBeacon_of_none busy hb hs]
  refine ⟨?_, by simp, by simp, by simp, by simp, by simp⟩
  rw [selectMode_tb, selectMode_mode]
  simp only [modeFor_zero]

/-- Settles O32. -/
theorem eraseRuns : Obligations.EraseRuns := by
  refine ⟨fun f busy s h hc => ?_, fun busy s who hp hc hw hb hs => ⟨blankBlocks busy s, ?_, ?_⟩,
    fun f busy s h => ⟨fun hc => ?_, fun hc => ?_⟩⟩
  · rw [exec_erase busy h]
    exact congrArg _ (if_pos hc)
  · simp [exec, execEraseComplete, effect, hp, eraseCompletes, hc, hw, answerHeld]
  · obtain ⟨hcu, hie, hes⟩ := blankBlocks_blank busy s
    obtain ⟨htb, hmc, hnt, hnv, hlc, hsf⟩ := blankBlocks_of_quiet busy hb hs
    refine ⟨hcu, hmc, ?_, ?_, ?_, ?_, ?_, ?_, ?_, ?_, ?_, hie, hnt, hlc, hes, hnv, hsf⟩
    all_goals rw [htb]
  · rw [exec_erase busy h]
    simp [takeErase, hc, answer]
  · have hclosed : s.cu.custody ≠ .closed := by rintro hx; rw [hx] at hc; cases hc
    have hblank : s.cu.custody ≠ .blank := by rintro hx; rw [hx] at hc; cases hc
    rw [exec_erase busy h]
    simp [takeErase, hclosed, hblank, answer]

end Sys2Proof.Machine
end

section
/-! SUPPORT. The measurement arithmetic of R31 to R38: the channel check, the ratio, the conversion table with its segments,
and what a burst's codes say; with the settled statement beside it. -/

namespace Sys2Proof.Machine

/-! ## The channel check (R33, R34) -/

theorem foldl_max_eq {codes : List Nat} {hi a : Nat} (hm : hi ∈ codes) (ha : a ≤ hi) (hb : ∀ c ∈ codes, c ≤ hi) :
    codes.foldl max a = hi := by
  induction codes generalizing a with
  | nil => cases hm
  | cons c rest ih =>
    have hc : max a c ≤ hi := max_le ha (hb c (.head _))
    have hrest : ∀ x ∈ rest, x ≤ hi := fun x hx => hb x (.tail _ hx)
    rw [List.foldl_cons]
    rcases List.mem_cons.mp hm with rfl | hm
    · have stays : ∀ xs : List Nat, (∀ x ∈ xs, x ≤ hi) → xs.foldl max hi = hi := fun xs hxs => by
        induction xs with
        | nil => rfl
        | cons x xs ihx => rw [List.foldl_cons, max_eq_left (hxs x (.head _)), ihx fun y hy => hxs y (.tail _ hy)]
      rw [max_eq_right ha, stays rest hrest]
    · exact ih hm hc hrest

theorem foldl_min_eq {codes : List Nat} {lo a : Nat} (hm : lo ∈ codes) (ha : lo ≤ a) (hb : ∀ c ∈ codes, lo ≤ c) :
    codes.foldl min a = lo := by
  induction codes generalizing a with
  | nil => cases hm
  | cons c rest ih =>
    have hc : lo ≤ min a c := le_min ha (hb c (.head _))
    have hrest : ∀ x ∈ rest, lo ≤ x := fun x hx => hb x (.tail _ hx)
    rw [List.foldl_cons]
    rcases List.mem_cons.mp hm with rfl | hm
    · have stays : ∀ xs : List Nat, (∀ x ∈ xs, lo ≤ x) → xs.foldl min lo = lo := fun xs hxs => by
        induction xs with
        | nil => rfl
        | cons x xs ihx => rw [List.foldl_cons, min_eq_left (hxs x (.head _)), ihx fun y hy => hxs y (.tail _ hy)]
      rw [min_eq_right ha, stays rest hrest]
    · exact ih hm hc hrest

section
variable {codes : List Nat} {lo hi : Nat} (hlo : lo ∈ codes) (hhi : hi ∈ codes)
  (hb : ∀ c ∈ codes, lo ≤ c ∧ c ≤ hi ∧ c ≤ 4095)
include hlo hhi hb

/-- The channel check looks at the least and the greatest code alone (R33). -/
theorem channelCheck_eq :
    channelCheck codes =
      if lo ≤ 40 then some (.short lo) else if 4055 ≤ hi then some (.opened hi)
      else if 64 < hi - lo then some (.noisy (hi - lo)) else none := by
  have hsmall : smallest 4095 codes = lo := foldl_min_eq hlo (hb lo hlo).2.2 (fun c hc => (hb c hc).1)
  have hlarge : largest codes = hi := foldl_max_eq hhi (Nat.zero_le _) (fun c hc => (hb c hc).2.1)
  unfold channelCheck
  rw [hsmall, hlarge]

theorem channelCheck_cases :
    ((∃ c ∈ codes, c ≤ 40) → channelCheck codes = some (.short lo))
      ∧ ((∀ c ∈ codes, 40 < c) → (∃ c ∈ codes, 4055 ≤ c) → channelCheck codes = some (.opened hi))
      ∧ ((∀ c ∈ codes, 40 < c ∧ c < 4055) → 64 < hi - lo → channelCheck codes = some (.noisy (hi - lo)))
      ∧ ((∀ c ∈ codes, 40 < c ∧ c < 4055) → hi - lo ≤ 64 → channelCheck codes = none) := by
  rw [channelCheck_eq hlo hhi hb]
  refine ⟨fun ⟨c, hc, h⟩ => ?_, fun hall ⟨c, hc, h⟩ => ?_, fun hall h => ?_, fun hall h => ?_⟩
  · have := (hb c hc).1
    rw [if_pos (by omega)]
  · have := (hb c hc).2.1
    have := hall lo hlo
    rw [if_neg (by omega), if_pos (by omega)]
  · have := hall lo hlo
    have := hall hi hhi
    rw [if_neg (by omega), if_neg (by omega), if_pos h]
  · have := hall lo hlo
    have := hall hi hhi
    rw [if_neg (by omega), if_neg (by omega), if_neg (by omega)]

end

/-- The trimmed sum of four codes is that of the middle two (R34). -/
theorem trimmedSum_eq {a b c d : Nat} {codes : List Nat} (hab : a ≤ b) (hbc : b ≤ c) (hcd : c ≤ d) (hd : d ≤ 4095)
    (hp : codes.Perm [a, b, c, d]) : trimmedSum codes = b + c := by
  have hmem : ∀ x, x ∈ codes ↔ x = a ∨ x = b ∨ x = c ∨ x = d := fun x => by rw [hp.mem_iff]; simp
  have hlarge : largest codes = d := foldl_max_eq ((hmem d).mpr (by simp)) (Nat.zero_le _)
    (fun x hx => by rcases (hmem x).mp hx with h | h | h | h <;> omega)
  have hsmall : smallest 4095 codes = a := foldl_min_eq ((hmem a).mpr (by simp)) (by omega)
    (fun x hx => by rcases (hmem x).mp hx with h | h | h | h <;> omega)
  unfold trimmedSum
  rw [hlarge, hsmall, hp.sum_eq]
  simp only [List.sum_cons, List.sum_nil]
  omega

/-! ## The ratio (R35) -/

theorem normalisedRatio_rounds (m : Nat) {rref : Nat} (h : 0 < rref) :
    2 * rref * normalisedRatio m rref ≤ 4096 * m + rref ∧ 4096 * m + rref < 2 * rref * (normalisedRatio m rref + 1) := by
  unfold normalisedRatio
  rw [Nat.mul_comm m 4096]
  exact ⟨Nat.mul_div_le _ _, Nat.lt_mul_div_succ _ (by omega)⟩

theorem normalisedRatio_le {m rref q : Nat} (hr : 0 < rref) (h : 4096 * m + rref < 2 * rref * (q + 1)) :
    normalisedRatio m rref ≤ q := by
  have hlow := (normalisedRatio_rounds m hr).1
  exact Nat.lt_succ_iff.mp (Nat.lt_of_mul_lt_mul_left (hlow.trans_lt h))

theorem le_normalisedRatio {m rref q : Nat} (hr : 0 < rref) (h : 2 * rref * q ≤ 4096 * m + rref) :
    q ≤ normalisedRatio m rref := by
  have hhigh := (normalisedRatio_rounds m hr).2
  exact Nat.lt_succ_iff.mp (Nat.lt_of_mul_lt_mul_left (h.trans_lt hhigh))

/-! ## The conversion table (R36, R37) -/

/-- The interpolated temperature in a segment between two breakpoints, rounded half up (R36). -/
def segmentTemp (t1 t2 : Int) (q1 q2 q : Nat) : Int :=
  t1 + (((q1 : Int) - q) * (t2 - t1) + ((q1 : Int) - q2) / 2) / ((q1 : Int) - q2)

section
variable {t1 t2 : Int} {q1 q2 : Nat} (ht : t1 ≤ t2) (hq : q2 < q1)
include hq

theorem segmentTemp_upper : segmentTemp t1 t2 q1 q2 q1 = t1 := by
  unfold segmentTemp
  rw [sub_self, zero_mul, zero_add, Int.ediv_eq_zero_of_lt, add_zero]
  · omega
  · omega

theorem segmentTemp_lower : segmentTemp t1 t2 q1 q2 q2 = t2 := by
  unfold segmentTemp
  rw [Int.add_comm (((q1 : Int) - q2) * (t2 - t1)), Int.add_mul_ediv_left _ _ (by omega), Int.ediv_eq_zero_of_lt]
  · omega
  · omega
  · omega

include ht

theorem segmentTemp_antitone {q q' : Nat} (h : q ≤ q') : segmentTemp t1 t2 q1 q2 q' ≤ segmentTemp t1 t2 q1 q2 q := by
  unfold segmentTemp
  have hmul : ((q1 : Int) - q') * (t2 - t1) ≤ ((q1 : Int) - q) * (t2 - t1) :=
    mul_le_mul_of_nonneg_right (by omega) (by omega)
  have hdiv := Int.ediv_le_ediv (by omega : (0 : Int) < (q1 : Int) - q2)
    (add_le_add_left hmul (((q1 : Int) - q2) / 2))
  omega

end

/-- Two neighbouring breakpoints of the conversion table. -/
structure Segment (t1 t2 : Int) (q1 q2 : Nat) : Prop where
  ends : ∃ k : Nat, conversionTable[k]? = some (t1, q1) ∧ conversionTable[k + 1]? = some (t2, q2)

/-- The eight segments of R36's table. -/
theorem Segment.cases {t1 t2 : Int} {q1 q2 : Nat} (h : Segment t1 t2 q1 q2) :
    (t1 = -4000 ∧ q1 = 8900 ∧ t2 = -2500 ∧ q2 = 8100) ∨ (t1 = -2500 ∧ q1 = 8100 ∧ t2 = -1000 ∧ q2 = 6900)
      ∨ (t1 = -1000 ∧ q1 = 6900 ∧ t2 = 0 ∧ q2 = 5900) ∨ (t1 = 0 ∧ q1 = 5900 ∧ t2 = 1000 ∧ q2 = 4900)
      ∨ (t1 = 1000 ∧ q1 = 4900 ∧ t2 = 2500 ∧ q2 = 3500) ∨ (t1 = 2500 ∧ q1 = 3500 ∧ t2 = 4000 ∧ q2 = 2400)
      ∨ (t1 = 4000 ∧ q1 = 2400 ∧ t2 = 6000 ∧ q2 = 1400) ∨ (t1 = 6000 ∧ q1 = 1400 ∧ t2 = 8500 ∧ q2 = 700) := by
  obtain ⟨k, h1, h2⟩ := h.ends
  have hk : k < 8 := by
    have hlen : k + 1 < 9 := (List.getElem?_eq_some_iff.mp h2).1
    omega
  interval_cases k <;> simp_all [conversionTable]

theorem Segment.rises {t1 t2 : Int} {q1 q2 : Nat} (h : Segment t1 t2 q1 q2) : t1 ≤ t2 ∧ q2 < q1 := by
  rcases h.cases with h | h | h | h | h | h | h | h <;> omega

theorem interpolate_of_le {q q1 q2 : Nat} {t1 t2 : Int} (rest : List (Int × Nat)) (h : q ≤ q2) :
    interpolate q ((t1, q1) :: (t2, q2) :: rest) = interpolate q ((t2, q2) :: rest) := by
  rw [interpolate, if_neg (by omega)]

theorem interpolate_of_lt {q q1 q2 : Nat} {t1 t2 : Int} (rest : List (Int × Nat)) (hlo : q2 < q) (hhi : q ≤ q1) :
    interpolate q ((t1, q1) :: (t2, q2) :: rest) = segmentTemp t1 t2 q1 q2 q := by
  have hwidth : ((q1 - q2 : Nat) : Int) = (q1 : Int) - q2 := by omega
  rw [interpolate, if_pos hlo, segmentTemp, Nat.cast_sub hhi, Int.natCast_ediv, hwidth]
  rfl

theorem tableTemp_of_inside {q : Nat} (hlo : 700 < q) (hhi : q < 8900) :
    tableTemp q = (interpolate q conversionTable, none) := by
  rw [tableTemp, if_neg (by omega), if_neg (by omega)]

/-- Strictly between the table's ends a ratio is interpolated in the segment that it lies in, the upper breakpoint
included (R36). -/
theorem Segment.tableTemp_eq {t1 t2 : Int} {q1 q2 q : Nat} (h : Segment t1 t2 q1 q2) (hlo : q2 < q) (hhi : q ≤ q1)
    (hq : q < 8900) : tableTemp q = (segmentTemp t1 t2 q1 q2 q, none) := by
  have hcases := h.cases
  rw [tableTemp_of_inside (by omega) hq, conversionTable]
  congr 1
  rcases hcases with h | h | h | h | h | h | h | h <;> obtain ⟨rfl, rfl, rfl, rfl⟩ := h
  · exact interpolate_of_lt _ hlo hhi
  · rw [interpolate_of_le _ (by omega), interpolate_of_lt _ hlo hhi]
  · iterate 2 rw [interpolate_of_le _ (by omega)]
    exact interpolate_of_lt _ hlo hhi
  · iterate 3 rw [interpolate_of_le _ (by omega)]
    exact interpolate_of_lt _ hlo hhi
  · iterate 4 rw [interpolate_of_le _ (by omega)]
    exact interpolate_of_lt _ hlo hhi
  · iterate 5 rw [interpolate_of_le _ (by omega)]
    exact interpolate_of_lt _ hlo hhi
  · iterate 6 rw [interpolate_of_le _ (by omega)]
    exact interpolate_of_lt _ hlo hhi
  · iterate 7 rw [interpolate_of_le _ (by omega)]
    exact interpolate_of_lt _ hlo hhi

theorem tableTemp_low {q : Nat} (h : 8900 ≤ q) : tableTemp q = (-4000, some .low) := if_pos h

theorem tableTemp_high {q : Nat} (h : q ≤ 700) : tableTemp q = (8500, some .high) := by
  rw [tableTemp, if_neg (by omega), if_pos h]

/-- At each breakpoint the table temperature is the breakpoint's own (R36). -/
theorem tableTemp_breakpoint : ∀ x ∈ conversionTable, (tableTemp x.2).1 = x.1 := by
  decide

theorem Segment.breakpoints {t1 t2 : Int} {q1 q2 : Nat} (h : Segment t1 t2 q1 q2) :
    (tableTemp q1).1 = t1 ∧ (tableTemp q2).1 = t2 := by
  obtain ⟨k, h1, h2⟩ := h.ends
  exact ⟨tableTemp_breakpoint _ (List.mem_of_getElem? h1), tableTemp_breakpoint _ (List.mem_of_getElem? h2)⟩

/-- Between the breakpoints of a segment, both included, the table temperature is the segment's. -/
theorem Segment.tableTemp_fst {t1 t2 : Int} {q1 q2 q : Nat} (h : Segment t1 t2 q1 q2) (hlo : q2 ≤ q) (hhi : q ≤ q1) :
    (tableTemp q).1 = segmentTemp t1 t2 q1 q2 q := by
  obtain ⟨hupper, hlower⟩ := h.breakpoints
  rcases Nat.eq_or_lt_of_le hlo with rfl | hlo
  · rw [hlower, segmentTemp_lower h.rises.2]
  · rcases Nat.eq_or_lt_of_le hhi with rfl | hhi
    · rw [hupper, segmentTemp_upper h.rises.2]
    · have hq : q < 8900 := by
        have := h.cases
        omega
      rw [h.tableTemp_eq hlo hhi.le hq]

/-- A ratio and the next higher one lie in one segment, inside the table. -/
theorem exists_segment {q : Nat} (hlo : 700 ≤ q) (hhi : q < 8900) :
    ∃ t1 t2 q1 q2, Segment t1 t2 q1 q2 ∧ q2 ≤ q ∧ q + 1 ≤ q1 := by
  have segment : ∀ k : Nat, ∀ x y, conversionTable[k]? = some x → conversionTable[k + 1]? = some y → y.2 ≤ q → q + 1 ≤ x.2 →
      ∃ t1 t2 q1 q2, Segment t1 t2 q1 q2 ∧ q2 ≤ q ∧ q + 1 ≤ q1 :=
    fun k x y hx hy h1 h2 => ⟨x.1, y.1, x.2, y.2, ⟨k, hx, hy⟩, h1, h2⟩
  by_cases h0 : 8100 ≤ q
  · exact segment 0 _ _ rfl rfl h0 (by simp only; omega)
  by_cases h1 : 6900 ≤ q
  · exact segment 1 _ _ rfl rfl h1 (by simp only; omega)
  by_cases h2 : 5900 ≤ q
  · exact segment 2 _ _ rfl rfl h2 (by simp only; omega)
  by_cases h3 : 4900 ≤ q
  · exact segment 3 _ _ rfl rfl h3 (by simp only; omega)
  by_cases h4 : 3500 ≤ q
  · exact segment 4 _ _ rfl rfl h4 (by simp only; omega)
  by_cases h5 : 2400 ≤ q
  · exact segment 5 _ _ rfl rfl h5 (by simp only; omega)
  by_cases h6 : 1400 ≤ q
  · exact segment 6 _ _ rfl rfl h6 (by simp only; omega)
  · exact segment 7 _ _ rfl rfl hlo (by simp only; omega)

/-- The table temperature never rises with the ratio (R36). -/
theorem tableTemp_antitone : Antitone fun q => (tableTemp q).1 := by
  refine antitone_nat_of_succ_le fun q => ?_
  by_cases hhi : 8900 ≤ q
  · simp only [tableTemp_low hhi, tableTemp_low (hhi.trans (Nat.le_succ q)), le_refl]
  by_cases hlo : q < 700
  · simp only [tableTemp_high hlo.le, tableTemp_high (Nat.succ_le_of_lt hlo), le_refl]
  obtain ⟨t1, t2, q1, q2, hs, h1, h2⟩ := exists_segment (q := q) (by omega) (by omega)
  simp only [hs.tableTemp_fst h1 (by omega), hs.tableTemp_fst (by omega) h2]
  exact segmentTemp_antitone hs.rises.1 hs.rises.2 (Nat.le_succ q)

theorem tableTemp_range (q : Nat) : -4000 ≤ (tableTemp q).1 ∧ (tableTemp q).1 ≤ 8500 := by
  have hlow := tableTemp_antitone (Nat.zero_le q)
  have hhigh := tableTemp_antitone (Nat.le_add_left q 8900)
  simp only [tableTemp_high (Nat.zero_le 700), tableTemp_low (Nat.le_add_right 8900 q)] at hlow hhigh
  exact ⟨hhigh, hlow⟩

theorem tableTemp_flag (q : Nat) : ((tableTemp q).2 = some .low ↔ 8900 ≤ q) ∧ ((tableTemp q).2 = some .high ↔ q ≤ 700) := by
  unfold tableTemp
  split
  · simp
    omega
  · split
    · simp
      omega
    · simp
      omega

/-! ## What a burst's codes say (R31, R33, R37, R43) -/

theorem referencePasses_iff {r1 r2 : Nat} :
    referencePasses r1 r2 = true ↔
      1800 ≤ r1 ∧ r1 ≤ 2300 ∧ 1800 ≤ r2 ∧ r2 ≤ 2300 ∧ r1 ≤ r2 + 16 ∧ r2 ≤ r1 + 16 := by
  simp only [referencePasses, Bool.and_eq_true, decide_eq_true_eq]
  omega

/-- The codes of a burst in conversion order: the reference, channel P, channel A where it is converted, the reference
again (R25). -/
theorem burstCodes (fl : Flight) (r1 r2 : Nat) {p a : List Nat} (hp : p.length = 4) (ha : a.length = if fl.air then 4 else 0) :
    ([r1] ++ p ++ a ++ [r2]).headD 0 = r1 ∧ ([r1] ++ p ++ a ++ [r2]).getLastD 0 = r2
      ∧ (([r1] ++ p ++ a ++ [r2]).drop 1).take 4 = p
      ∧ (fl.air = true → (([r1] ++ p ++ a ++ [r2]).drop 5).take 4 = a) := by
  refine ⟨rfl, ?_, ?_, fun hair => ?_⟩
  · rw [List.getLastD_eq_getLast?, List.getLast?_concat, Option.getD_some]
  · simp [hp]
  · simp [hair] at ha
    simp [hp, ha]

/-- What a channel's four codes give, with R33's context, R37's flag and R43's datum; `first` says whether it is channel P. -/
def ChannelReads (rref : Nat) (first : Bool) (codes : List Nat) (trim : Int) (outcome : Outcome)
    (range : Option RangeFlag) (notes : List SensorNote) : Prop :=
  match channelCheck codes with
  | some (.short c) => outcome = .short ∧ range = none ∧ notes = [⟨if first then .pShort else .aShort, beBytes 2 c⟩]
  | some (.opened c) => outcome = .opened ∧ range = none ∧ notes = [⟨if first then .pOpen else .aOpen, beBytes 2 c⟩]
  | some (.noisy d) => outcome = .noisy ∧ range = none ∧ notes = [⟨if first then .pNoisy else .aNoisy, beBytes 2 d⟩]
  | none =>
    outcome = .temp (trimmedTemp (tableTemp (normalisedRatio (trimmedSum codes) rref)).1 trim)
      ∧ range = (tableTemp (normalisedRatio (trimmedSum codes) rref)).2
      ∧ (range = none → notes = [])
      ∧ (range = some .low →
          notes = [⟨.rangeLow, (if first then 0 else 1) :: beBytes 2 (normalisedRatio (trimmedSum codes) rref)⟩])
      ∧ (range = some .high →
          notes = [⟨.rangeHigh, (if first then 0 else 1) :: beBytes 2 (normalisedRatio (trimmedSum codes) rref)⟩])

theorem channelReading_reads (ch : Channel) (codes : List Nat) (rref : Nat) (trim : Int) :
    ChannelReads rref (decide (ch = .p)) codes trim (channelReading ch codes rref trim).outcome
      (channelReading ch codes rref trim).range (channelReading ch codes rref trim).note.toList := by
  unfold ChannelReads channelReading
  cases channelCheck codes with
  | some fault => cases fault <;> simp [faultReading]
  | none =>
    refine ⟨rfl, rfl, fun h => ?_, fun h => ?_, fun h => ?_⟩ <;> simp only at h ⊢ <;> rw [h]
    · rfl
    · simp [rangeNote]
    · simp [rangeNote]

/-- A burst whose reference fails says so, and no more (R32, R43). -/
theorem formResult_of_not_passes (info : Info) (fl : Flight) {codes : List Nat} {r1 r2 : Nat} (h1 : codes.headD 0 = r1)
    (h2 : codes.getLastD 0 = r2) (h : referencePasses r1 r2 = false) :
    formResult info fl codes = (⟨fl.start, fl.sources, fl.credit, .ref, if fl.air then some .ref else none, none, none⟩,
      [⟨.refFault, beBytes 2 r1 ++ beBytes 2 r2⟩]) := by
  unfold formResult
  simp only [h1, h2, h, Bool.false_eq_true, if_false]

/-- A burst whose reference passes reads channel P and, where it was converted, channel A (R33 to R38, R43). -/
theorem formResult_of_passes (info : Info) (fl : Flight) {codes p a : List Nat} {r1 r2 : Nat} (h1 : codes.headD 0 = r1)
    (h2 : codes.getLastD 0 = r2) (hp : (codes.drop 1).take 4 = p) (ha : fl.air = true → (codes.drop 5).take 4 = a)
    (h : referencePasses r1 r2 = true) :
    let reads := channelReading .p p (referenceCode r1 r2) info.pTrim
    let air := channelReading .a a (referenceCode r1 r2) info.aTrim
    formResult info fl codes =
      (⟨fl.start, fl.sources, fl.credit, reads.outcome, if fl.air then some air.outcome else none, reads.range,
          if fl.air then air.range else none⟩,
        reads.note.toList ++ if fl.air then air.note.toList else []) := by
  unfold formResult
  rw [h1, h2, hp]
  cases hair : fl.air with
  | false => simp [h]
  | true => simp [h, ha hair]

/-- Settles O38: the channel check through the least and the greatest code, the table through its segments, and the notes
of a burst through the reading of each channel. -/
theorem measuredTemperature : Obligations.MeasuredTemperature := by
  unfold Obligations.MeasuredTemperature
  refine ⟨fun _ _ => rfl, fun codes lo hi hlo hhi hb => channelCheck_cases hlo hhi hb,
    fun a b c d codes => trimmedSum_eq, fun m rref => normalisedRatio_rounds m, fun m rref hm hlo hhi => ?_,
    fun m rref hm hm' hlo hhi => ⟨?_, ?_⟩, rfl,
    fun k t1 t2 q1 q2 q h1 h2 => Segment.tableTemp_eq ⟨⟨k, h1, h2⟩⟩, fun q => ⟨tableTemp_low, tableTemp_high⟩,
    tableTemp_range, fun q q' h => tableTemp_antitone h, tableTemp_breakpoint, tableTemp_flag,
    fun ttab trim => ⟨rfl, clampTemp_range _⟩, fun info fl r1 r2 p a hp ha => ?_, fun _ _ _ _ => ⟨rfl, rfl⟩⟩
  · exact normalisedRatio_le (by omega) (by omega)
  · exact le_normalisedRatio (by omega) (by omega)
  · exact normalisedRatio_le (by omega) (by omega)
  · obtain ⟨h1, h2, hpc, hac⟩ := burstCodes fl r1 r2 hp ha
    refine ⟨fun hno => ?_, fun hpass => ?_⟩
    · rw [formResult_of_not_passes info fl h1 h2 (Bool.eq_false_iff.mpr fun h => hno (referencePasses_iff.mp h))]
      exact ⟨rfl, rfl, rfl, rfl, rfl⟩
    · rw [formResult_of_passes info fl h1 h2 hpc hac (referencePasses_iff.mpr hpass)]
      refine ⟨_, _, rfl, channelReading_reads .p p _ _, fun hair => ?_, fun hair => ?_⟩
      · simp only [hair, if_true]
        exact ⟨_, rfl, channelReading_reads .a a _ _⟩
      · simp only [hair, Bool.false_eq_true, if_false, and_self]

end Sys2Proof.Machine
end

section
/-! SUPPORT. The transmitter's senses and services (R113 to R118), the assembled beacon, the interval boundary without a
deferred close (R46) and the due beacon (R59), with the settled statements beside them. -/

namespace Sys2Proof.Machine

/-! ## The service of the slots (R115) -/

theorem serve_of_chosen (busy : Bool) {s : State} {slot : Slot} (ht : s.lc.tx = .idle) (hc : chooseSlot s = some slot) :
    serve busy s = sense busy { s with lc := { s.lc with tx := .sense, served := some slot, attempts := 0 } } := by
  rw [serve, if_pos ht, hc]

theorem serve_of_empty (busy : Bool) {s : State} (hb : s.lc.beaconSlot = none) (hr : s.lc.replySlot = none) :
    serve busy s = s := by
  simp [serve, chooseSlot, hb, hr]

/-- The reply goes first unless the beacon became ready before it (R115). -/
theorem chooseSlot_reply {s : State} {r : PlacedReply} (hr : s.lc.replySlot = some r)
    (h : ∀ b, s.lc.beaconSlot = some b → ¬ (b.ready.interval < r.ready.interval
      ∨ (b.ready.interval = r.ready.interval ∧ b.ready.phase < r.ready.phase))) :
    chooseSlot s = some .reply := by
  unfold chooseSlot
  rw [hr]
  cases hb : s.lc.beaconSlot with
  | none => rfl
  | some b =>
    have hready : r.ready.notAfter b.ready = true := by
      have := h b hb
      simp only [Capture.notAfter, Bool.or_eq_true, Bool.and_eq_true, decide_eq_true_eq]
      omega
    simp [hready]

theorem chooseSlot_beacon {s : State} {b : BeaconRequest} (hb : s.lc.beaconSlot = some b)
    (h : ∀ r, s.lc.replySlot = some r → b.ready.interval < r.ready.interval
      ∨ (b.ready.interval = r.ready.interval ∧ b.ready.phase < r.ready.phase)) :
    chooseSlot s = some .beacon := by
  unfold chooseSlot
  rw [hb]
  cases hr : s.lc.replySlot with
  | none => rfl
  | some r =>
    have hready : r.ready.notAfter b.ready = false := by
      have := h r hr
      simp only [Capture.notAfter, Bool.or_eq_false_iff, Bool.and_eq_false_iff, decide_eq_false_iff_not]
      omega
    simp [hready]

section
variable {s : State} (ht : s.lc.tx = .idle)
include ht

/-- A chosen frame on a busy channel: one sense is counted, and the transmitter backs off (R116, R117). -/
theorem serve_busy {slot : Slot} (hc : chooseSlot s = some slot) :
    serve true s =
      { s with
        lc := { s.lc with
          tx := .backoff, served := some slot, attempts := 1, generator := lfsrStep s.lc.generator
          counters := { s.lc.counters with busySenses := bump s.lc.counters.busySenses } }
        timers := { s.timers with tx := 4 * (((lfsrStep s.lc.generator).toNat % 8 + 1) * 8) } } := by
  rw [serve_of_chosen true ht hc]
  simp [sense, senseBusy, counting, backoffMs]

/-- A chosen reply on an idle channel is sent at once (R118). -/
theorem serve_reply {r : PlacedReply} (hc : chooseSlot s = some .reply) (hr : s.lc.replySlot = some r) :
    serve false s =
      { s with
        lc := { s.lc with
          tx := .sending, served := some .reply, attempts := 0, replySlot := none, onAir := some ⟨.reply, r.frame⟩ }
        timers := { s.timers with tx := 80 } } := by
  rw [serve_of_chosen false ht hc]
  simp [sense, startTransmission, hr]

/-- A chosen beacon on an idle channel is sent at once, assembled from the state as its transmission begins (R113,
R118). -/
theorem serve_beacon {b : BeaconRequest} (hc : chooseSlot s = some .beacon) (hb : s.lc.beaconSlot = some b) :
    serve false s =
      { s with
        lc := { s.lc with
          tx := .sending, served := some .beacon, attempts := 0, beaconSlot := none
          onAir := some ⟨.beacon, beaconFrame b.kind s⟩, sequence := (s.lc.sequence + 1) % 256 }
        timers := { s.timers with tx := 80 } } := by
  rw [serve_of_chosen false ht hc]
  simp [sense, startTransmission, hb, beaconFrame, beaconFields]

end

/-! ## The assembled beacon (R113) -/

theorem flagByte_five (a b c d e : Bool) :
    flagByte [a, b, c, d, e] = (if a then 1 else 0) ||| (if b then 2 else 0) ||| (if c then 4 else 0)
      ||| (if d then 8 else 0) ||| (if e then 16 else 0) := by
  revert a b c d e
  decide

theorem Coverage.code_byte (c : Coverage) :
    BitVec.ofNat 8 c.code = match c with | .none => 0 | .own => 1 | .air => 2 | .witness => 3 | .gap => 4 := by
  cases c <;> rfl

/-- Every field of an assembled beacon, while a leg is open and a content stands (R113). -/
theorem beaconFrame_eq {s : State} {content : BeaconContent} {leg : Leg} (kind : BeaconKind)
    (hc : s.lc.content = some content) (hl : s.es.openLeg = some leg) :
    let figures : Figures := match content.figures with | some f => f | none => ⟨0, 0⟩
    beaconFrame kind s = beaconBytes
      { sender := s.info.serial, compartment := BitVec.ofNat 16 leg.compartment, leg := BitVec.ofNat 8 leg.number
        interval := BitVec.ofNat 16 content.interval, tmax := BitVec.ofInt 16 figures.hi
        tmin := BitVec.ofInt 16 figures.lo
        coverage := match content.coverage with | .none => 0 | .own => 1 | .air => 2 | .witness => 3 | .gap => 4
        verdict := BitVec.ofNat 8 content.verdict.code
        flags := (if kind = .alert then 1 else 0) ||| (if content.raised then 2 else 0)
          ||| (if content.noValidP ∨ content.coverage = .none then 4 else 0)
          ||| (if s.sf.supply = .low then 8 else 0)
          ||| (if s.cu.causes = ⟨false, false, false, false, false, false⟩ then 0 else 16)
        seq := BitVec.ofNat 8 s.lc.sequence } := by
  dsimp only
  unfold beaconFrame beaconFields
  dsimp only
  rw [flagByte_five, hc, hl, ← Coverage.code_byte]
  cases hf : content.figures <;> simp [hf, Causes.nonempty_iff, Causes.empty]

/-! ## The ends of the transmitter's periods (R107, R116, R118) -/

theorem exec_backoffEnd {s : State} (busy busyNext : Bool) (hp : s.powered = true) (ht : s.lc.tx = .backoff) :
    exec (.backoffEnd busy busyNext) s = .next (serve busyNext (sense busy s)) :=
  congrArg Host.Outcome.next ((if_pos hp).trans (if_pos ht))

section
variable {s : State}

/-- A transmission in progress is not served again (R115). -/
theorem serve_sense_reply {r : PlacedReply} (busyNext : Bool) (hs : s.lc.served = some .reply)
    (hr : s.lc.replySlot = some r) :
    serve busyNext (sense false s) =
      { s with
        lc := { s.lc with tx := .sending, replySlot := none, onAir := some ⟨.reply, r.frame⟩ }
        timers := { s.timers with tx := 80 } } := by
  simp [sense, startTransmission, hs, hr, serve_of_not_idle]

theorem serve_sense_beacon {b : BeaconRequest} (busyNext : Bool) (hs : s.lc.served = some .beacon)
    (hb : s.lc.beaconSlot = some b) :
    serve busyNext (sense false s) =
      { s with
        lc := { s.lc with
          tx := .sending, beaconSlot := none, onAir := some ⟨.beacon, beaconFrame b.kind s⟩
          sequence := (s.lc.sequence + 1) % 256 }
        timers := { s.timers with tx := 80 } } := by
  simp [sense, startTransmission, hs, hb, serve_of_not_idle]

/-- A busy sense below the fourth backs off again (R116, R117). -/
theorem serve_sense_again (busyNext : Bool) (ht : s.lc.tx = .backoff) (ha : s.lc.attempts < 3) :
    serve busyNext (sense true s) =
      { s with
        lc := { s.lc with
          attempts := s.lc.attempts + 1, generator := lfsrStep s.lc.generator
          counters := { s.lc.counters with busySenses := bump s.lc.counters.busySenses } }
        timers := { s.timers with tx := 4 * (((lfsrStep s.lc.generator).toNat % 8 + 1) * 8) } } := by
  have hfew : ¬ 4 ≤ s.lc.attempts + 1 := by omega
  simp only [sense, senseBusy, if_true, if_neg hfew, counting, backoffMs]
  rw [serve_of_not_idle _ (by simp), ← ht]

/-- The fourth busy sense drops the frame of the slot served (R116). -/
theorem sense_drops {slot : Slot} (hs : s.lc.served = some slot) (ha : 3 ≤ s.lc.attempts) :
    sense true s = dropped slot .busy [] (transmitterIdle (clearSlot slot
      (counting (fun c => { c with busySenses := bump c.busySenses }) s))) := by
  have hmany : 4 ≤ s.lc.attempts + 1 := by omega
  simp [sense, senseBusy, hmany, hs]

end

/-- Settles O45: the service of a transmitter that leaves a backoff, by the channel and the slot served. -/
theorem backoffEnds_holds : Obligations.BackoffEnds := by
  intro busyNext s hp ht
  refine ⟨fun placed hs hr => ⟨?_, fun ha => ?_, fun ha => ?_, fun hb => ?_, fun b hb hn => ?_⟩,
    fun request hs hb => ⟨?_, fun ha => ?_, fun ha => ?_, fun hr => ?_, fun r hr hn => ?_⟩,
    fun content leg kind => beaconFrame_eq kind⟩
  · rw [exec_backoffEnd _ _ hp ht, serve_sense_reply _ hs hr]
  · rw [exec_backoffEnd _ _ hp ht, serve_sense_again _ ht ha]
  · rw [exec_backoffEnd _ _ hp ht, sense_drops hs ha]
    rfl
  · exact serve_of_empty _ hb rfl
  · subst hn
    exact serve_beacon rfl (chooseSlot_beacon hb (by simp [noteNow, note])) hb
  · rw [exec_backoffEnd _ _ hp ht, serve_sense_beacon _ hs hb]
  · rw [exec_backoffEnd _ _ hp ht, serve_sense_again _ ht ha]
  · rw [exec_backoffEnd _ _ hp ht, sense_drops hs ha]
    rfl
  · exact serve_of_empty _ rfl hr
  · subst hn
    exact serve_reply rfl (chooseSlot_reply hr (by simp [noteNow, note])) hr

theorem exec_transmitComplete {s : State} (busy : Bool) (hp : s.powered = true) (ht : s.lc.tx = .sending) :
    exec (.transmitComplete busy) s = .next (serve busy (transmitterIdle (countSent s.sendingSlot s))) :=
  congrArg Host.Outcome.next ((if_pos hp).trans (if_pos ht))

theorem exec_transmitTimeout {s : State} (busy : Bool) (hp : s.powered = true) (ht : s.lc.tx = .sending) :
    exec (.transmitTimeout busy) s =
      .next (serve busy (dropped s.sendingSlot .timeout [] (transmitterIdle s))) :=
  congrArg Host.Outcome.next ((if_pos hp).trans (if_pos ht))

theorem sendingSlot_of_onAir {s : State} {slot : Slot} {frame : List Byte} (h : s.lc.onAir = some ⟨slot, frame⟩) :
    s.sendingSlot = slot := by
  simp [State.sendingSlot, h]

/-- Settles O46: the three events free the transmitter, and the freed transmitter serves the frame that it chooses. -/
theorem transmitterFreed : Obligations.TransmitterFreed := by
  refine ⟨fun s busy hp => ⟨fun frame ht ho => ⟨?_, ?_⟩, fun frame ht ho => ⟨?_, ?_⟩, fun ht => ?_, fun ht => ⟨?_, ?_⟩,
    fun ht => ?_⟩, fun s ht => ⟨fun hb hr busy => serve_of_empty busy hb hr, fun r hr h => ?_, fun b hb h => ?_⟩,
    fun s content leg kind => beaconFrame_eq kind, fun b => rfl⟩
  · rw [exec_transmitComplete busy hp ht, sendingSlot_of_onAir ho]
    rfl
  · rw [exec_transmitTimeout busy hp ht, sendingSlot_of_onAir ho]
    rfl
  · rw [exec_transmitComplete busy hp ht, sendingSlot_of_onAir ho]
    rfl
  · rw [exec_transmitTimeout busy hp ht, sendingSlot_of_onAir ho]
    rfl
  · exact congrArg Host.Outcome.next ((if_pos hp).trans (if_pos ht))
  · exact congrArg Host.Outcome.next ((if_pos hp).trans (if_neg ht))
  · exact congrArg Host.Outcome.next ((if_pos hp).trans (if_neg ht))
  · exact congrArg Host.Outcome.next ((if_pos hp).trans (if_neg ht))
  · have hc := chooseSlot_reply hr h
    exact ⟨serve_reply ht hc hr, serve_busy ht hc⟩
  · have hc := chooseSlot_beacon hb h
    exact ⟨serve_beacon ht hc hb, serve_busy ht hc⟩

/-! ## The interval boundary (R45, R46, R47) -/

theorem modeFor_eq (supply : Supply) (n fastUntil : Nat) :
    modeFor supply n fastUntil = if supply = .good then (if n < fastUntil then .fast else .steady) else .lean := by
  cases supply <;> rfl

theorem nextInterval_of_held {c : Custody} (n : Nat) (h : c = .blank ∨ c = .commissioning) : nextInterval c n = n := by
  rcases h with rfl | rfl <;> rfl

theorem nextInterval_of_rises {c : Custody} (n : Nat) (h : ¬ (c = .blank ∨ c = .commissioning)) :
    nextInterval c n = min 16777215 (n + 1) := by
  cases c <;> simp_all [nextInterval, satAdd, max24]

/-- A boundary outside the service states only starts the next interval (R46). -/
theorem boundaryToExposure_of_other {s : State} (h : s.cu.custody.inService = false) : boundaryToExposure s = s := by
  simp [boundaryToExposure, h]

/-- A boundary in service, no close deferred: the new accumulator stands beside the old one, whose close runs unless a
credited burst of it is in flight (R63, R65). -/
theorem boundaryToExposure_of_service {s : State} {acc : Accumulator} (h : s.cu.custody.inService = true)
    (ho : s.ie.old = none) (hc : s.ie.cur = some acc) :
    let u : State := { s with ie := { s.ie with old := some acc, cur := some (Accumulator.empty s.tb.interval) } }
    boundaryToExposure s = if s.creditedInFlight acc.interval then u else runDeferred u := by
  simp only [boundaryToExposure, h, if_true, runDeferred_of_none ho, hc]
  rfl

/-- Settles O42: the boundary's first four steps, with nothing passed to the exposure engine. -/
theorem boundaryWithoutClose : Obligations.BoundaryWithoutClose := by
  intro s hp hclosed hmax n mode
  have hn : nextInterval s.cu.custody s.tb.interval = n := by
    by_cases hc : s.cu.custody = .blank ∨ s.cu.custody = .commissioning
    · rw [nextInterval_of_held _ hc]
      exact (if_pos hc).symm
    · rw [nextInterval_of_rises _ hc]
      exact (if_neg hc).symm
  have hboundary : boundary s = boundarySteps s := by
    by_cases hi : s.tb.interval = max24
    · exact if_pos hi
    · rw [boundary, if_neg hi]
      exact boundaryToExposure_of_other (hclosed.resolve_right hi)
  show Host.Outcome.next (if s.powered then boundary s else s) = _
  rw [if_pos hp, hboundary, boundarySteps, hn, modeFor_eq]

/-- Settles O41: the boundary's first four steps, and the close run or deferred. -/
theorem boundaryPassedToClose : Obligations.BoundaryPassedToClose := by
  intro s acc hp hservice hmax hold hcur n mode u
  have hcustody : ¬ (s.cu.custody = .blank ∨ s.cu.custody = .commissioning) := by
    rintro (h | h) <;> rw [h] at hservice <;> cases hservice
  have hn : nextInterval s.cu.custody s.tb.interval = n := by
    rw [nextInterval_of_rises _ hcustody]
    omega
  have hboundary : boundary s = if s.creditedInFlight acc.interval then u else runDeferred u := by
    rw [boundary, if_neg (show ¬ s.tb.interval = max24 from Nat.ne_of_lt hmax), boundarySteps, hn, modeFor_eq]
    exact boundaryToExposure_of_service hservice hold hcur
  show (_ → Host.Outcome.next (if s.powered then boundary s else s) = _)
    ∧ (_ → Host.Outcome.next (if s.powered then boundary s else s) = _)
  rw [if_pos hp, hboundary]
  refine ⟨fun h => ?_, fun h => ?_⟩
  · rw [if_pos h]
  · rw [h]
    rfl

/-! ## The due beacon (R59, R112) -/

theorem exec_beaconDue {s : State} (busy : Bool) (hp : s.powered = true) :
    exec (.beaconDue busy) s = .next (beaconDue busy s) :=
  congrArg Host.Outcome.next (if_pos hp)

/-- Whether a beacon may be requested does not depend on the phase (R59). -/
theorem beaconAllowed_reachPhase (p : Nat) (s : State) : (reachPhase p s).beaconAllowed = s.beaconAllowed := by
  unfold reachPhase
  split <;> rfl

theorem beaconAllowed_iff (s : State) :
    s.beaconAllowed = true ↔ s.cu.custody.inService = true ∧ s.sf.activity = .running
      ∧ (s.sf.supply = .good ∨ (s.sf.supply = .low ∧ s.tb.interval % 2 = 0)) := by
  simp [State.beaconAllowed, and_assoc]

theorem beaconDue_of_allowed (busy : Bool) {s : State} (h : s.beaconAllowed = true) :
    beaconDue busy s = requestBeacon .scheduled busy (reachPhase s.tb.beaconOffset s) := by
  rw [beaconDue, beaconAllowed_reachPhase, if_pos h]

theorem beaconDue_of_not_allowed (busy : Bool) {s : State} (h : ¬ s.beaconAllowed = true) :
    beaconDue busy s = reachPhase s.tb.beaconOffset s := by
  rw [beaconDue, beaconAllowed_reachPhase, if_neg h]

/-- The phase reached is the only thing that changes. -/
theorem reachPhase_eq (p : Nat) (s : State) : ∃ tb, reachPhase p s = { s with tb := tb } ∧ tb.interval = s.tb.interval := by
  unfold reachPhase
  split
  · exact ⟨_, rfl, rfl⟩
  · exact ⟨_, rfl, rfl⟩

/-- Settles O44: the phase reaches the offset, and a beacon that is allowed is requested there. -/
theorem beaconDueRequests : Obligations.BeaconDueRequests := by
  intro busy s hp at_ due
  have hdue : s.beaconAllowed = true ↔ due := beaconAllowed_iff s
  obtain ⟨tb, hat, htb⟩ := reachPhase_eq s.tb.beaconOffset s
  have hreached : reachPhase s.tb.beaconOffset s = at_ := rfl
  rw [hreached] at hat
  rw [exec_beaconDue busy hp]
  refine ⟨fun h => ?_, fun h he ht hb => ?_, fun old h he ht hb => ?_, fun h he ht hb hr hbusy => ?_⟩
  · rw [beaconDue_of_not_allowed busy (fun h' => h (hdue.mp h')), hreached]
  · rw [beaconDue_of_allowed busy (hdue.mpr h)]
    rw [hreached, hat, requestBeacon_of_room .scheduled busy (s := { s with tb := tb }) he ht hb, ← htb]
    rfl
  · rw [beaconDue_of_allowed busy (hdue.mpr h)]
    rw [hreached, hat, requestBeacon_of_full .scheduled busy (s := { s with tb := tb }) he ht hb, ← htb, BeaconKind.code_eq]
    rfl
  · rw [beaconDue_of_allowed busy (hdue.mpr h), hbusy]
    rw [hreached, hat, requestBeacon_of_idle .scheduled (s := { s with tb := tb }) he ht hb hr]
    rfl

end Sys2Proof.Machine
end

section
/-! SUPPORT. The write queue case by case (R125 to R134, R140): how a record joins, merges, is refused or is folded, what the
next write is, and how each kind of record's write ends; with the settled statements beside them. -/

namespace Sys2Proof.Machine

/-! ## Taking up a queue (R127, R133, R140) -/

/-- A record that is no checkpoint and no leg is written as it stands, an episode while fewer than 96 are stored. -/
theorem writeHead_plain {r : QueueRecord} (rest : List QueueRecord) {s : State}
    (he : ∀ e, r = .episode e → s.es.storedCount < 96) (hc : ∀ c, r ≠ .checkpoint c) (hl : ∀ l, r ≠ .leg l) :
    writeHead (r :: rest) s = writing (r :: rest) s := by
  cases r with
  | episode e => exact if_neg (Nat.not_le.mpr (he e rfl))
  | checkpoint c => exact absurd rfl (hc c)
  | leg l => exact absurd rfl (hl l)
  | profile _ | certificate _ => rfl

/-- Episodes at the head that find 96 stored are folded, and what is behind them follows (R133). -/
theorem writeHead_folds (folds : List Episode) (behind : List QueueRecord) {s : State}
    (h : folds ≠ [] → 96 ≤ s.es.storedCount) :
    writeHead (folds.map QueueRecord.episode ++ behind) s
      = writeHead behind (folds.foldl (fun v e => foldEpisode e v) s) := by
  induction folds generalizing s with
  | nil => rfl
  | cons e folds ih =>
    have hs : 96 ≤ s.es.storedCount := h (by simp)
    rw [List.map_cons, List.cons_append, writeHead, if_pos hs]
    exact ih fun _ => by simpa using hs

/-- A fold looks at the overflow summary, the stored count and the flag, and not at the queue (R134). -/
theorem foldEpisode_with_queue (e : Episode) (s : State) (q : List QueueRecord) :
    foldEpisode e { s with es := { s.es with queue := q } }
      = { foldEpisode e s with es := { (foldEpisode e s).es with queue := q } } := by
  unfold foldEpisode
  dsimp only
  split <;> rfl

section
variable {s : State}

theorem nextWrite_of_running (h : s.sf.activity = .running) : nextWrite s = writeHead s.es.queue.tail s := if_pos h

theorem nextWrite_of_halted (h : s.sf.activity = .halted) :
    nextWrite s = { s with es := { s.es with state := .idle, queue := s.es.queue.tail } } := by
  simp [nextWrite, h]

/-- An IDLE store of a RUNNING part takes up the one record that joins its empty queue (R127). -/
theorem joinQueue_of_idle (r : QueueRecord) (hq : s.es.queue = []) (hi : s.es.state = .idle)
    (ha : s.sf.activity = .running) :
    joinQueue r s = writeHead [r] { s with es := { s.es with queue := [r] } } := by
  simp [joinQueue, startWrites, hq, hi, ha]

end

/-! ## An offer (R125, R126, R129) -/

theorem merges_iff (r : QueueRecord) (q : List QueueRecord) :
    r.merges q = true ↔ r = .checkpoint none ∧ QueueRecord.checkpoint none ∈ q := by
  simp [QueueRecord.merges, unstartedCheckpoint_iff]

section
variable {r : QueueRecord} {s : State} (hw : s.es.criticalWaiting = false)
include hw

theorem offer_of_merging (hr : r = .checkpoint none) (hq : QueueRecord.checkpoint none ∈ s.es.queue) :
    offer r s = s := by
  have hm : r.merges s.es.queue = true := (merges_iff r _).mpr ⟨hr, hq⟩
  simp [offer, admitCritical_of_none s hw, hm]

theorem offer_of_space (hm : ¬ r.merges s.es.queue = true) (hq : s.es.queue.length < 4) :
    offer r s = joinQueue r s := by
  simp [offer, admitCritical_of_none s hw, hm, queueLimit, hq]

theorem offer_of_full_queue (hm : ¬ r.merges s.es.queue = true) (hq : 4 ≤ s.es.queue.length) :
    offer r s = refuseRecord r s := by
  have hfull : ¬ s.es.queue.length < 4 := Nat.not_lt.mpr hq
  simp [offer, admitCritical_of_none s hw, hm, queueLimit, hfull]

end

section
variable {s : State} (hw : s.es.criticalWaiting = true)
include hw

/-- The waiting CRITICAL checkpoint merges with one that waits unstarted (R126, R129). -/
theorem admitCritical_of_merging (hq : QueueRecord.checkpoint none ∈ s.es.queue) :
    admitCritical s = { s with es := { s.es with criticalWaiting := false } } := by
  simp [admitCritical, hw, (unstartedCheckpoint_iff _).mpr hq]

theorem admitCritical_of_space (hq : QueueRecord.checkpoint none ∉ s.es.queue) (hl : s.es.queue.length < 4) :
    admitCritical s = joinQueue (.checkpoint none) { s with es := { s.es with criticalWaiting := false } } := by
  have hn : ¬ unstartedCheckpoint s.es.queue = true := fun h => hq ((unstartedCheckpoint_iff _).mp h)
  simp [admitCritical, hw, hn, queueLimit, hl]

theorem admitCritical_of_full (hq : QueueRecord.checkpoint none ∉ s.es.queue) (hl : 4 ≤ s.es.queue.length) :
    admitCritical s = s := by
  have hn : ¬ unstartedCheckpoint s.es.queue = true := fun h => hq ((unstartedCheckpoint_iff _).mp h)
  simp [admitCritical, hw, hn, queueLimit, Nat.not_lt.mpr hl]

end

/-- An offer is made after the CRITICAL checkpoint that waits has been admitted (R129; log 24). -/
theorem offer_admitted (r : QueueRecord) {s : State} (h : (admitCritical s).es.criticalWaiting = false) :
    offer r s = offer r (admitCritical s) := by
  unfold offer
  rw [admitCritical_of_none _ h]

/-! ## The fold (R134) -/

/-- The overflow summary with one more episode, each total stopping at its bound (R134). -/
theorem foldEpisode_eq (e : Episode) (s : State) :
    let u : State := { s with es := { s.es with overflow :=
      ⟨min 65535 (s.es.overflow.folded + 1),
        min 16777215 (s.es.overflow.warm + (match e.charges with | some c => c.warm | none => 0)),
        min 16777215 (s.es.overflow.cold + (match e.charges with | some c => c.cold | none => 0)),
        min 16777215 (s.es.overflow.gaps + (if e.kind = .gap then e.count else 0))⟩ } }
    foldEpisode e s = if 96 ≤ s.es.storedCount ∧ s.es.logFullNoted = false then
        noteNow .logFull [2, BitVec.ofNat 8 e.kind.code] { u with es := { u.es with logFullNoted := true } }
      else u := by
  unfold foldEpisode
  cases e.charges <;> rfl

/-- Settles O47: an offer by what waits, by the room and by what the store is doing; and the fold. -/
theorem recordOffered : Obligations.RecordOffered := by
  refine ⟨fun r s hw => ?_, fun r s hw => ?_, fun e s => ?_⟩
  · intro started content
    refine ⟨offer_of_merging hw, fun hno => ?_⟩
    have hm : ¬ r.merges s.es.queue = true := fun h => by
      obtain ⟨hr, hq⟩ := (merges_iff r _).mp h
      exact hno.elim (fun h => h hr) (fun h => h hq)
    refine ⟨fun hq hheld => ?_, fun hq hi ha => ?_, fun hq => ?_⟩
    · rw [offer_of_space hw hm hq, joinQueue_of_held r hheld]
    · rw [offer_of_space hw hm (by simp [hq]), joinQueue_of_idle r hq hi ha]
      refine ⟨fun he hc hl => ?_, fun l hr => ?_, fun hr => ?_, fun e hr hfull => ?_⟩
      · exact writeHead_plain [] he hc hl
      · subst hr
        rfl
      · subst hr
        rfl
      · subst hr
        rw [writeHead, if_pos hfull, foldEpisode_with_queue]
        rfl
    · rw [offer_of_full_queue hw hm hq]
      cases r <;> rfl
  · intro cleared
    refine ⟨fun hq => ?_, fun hq hl => ?_, fun hq hl => ?_⟩
    · have ha := admitCritical_of_merging hw hq
      rw [offer_admitted r (by rw [ha]), ha]
    · have ha := admitCritical_of_space hw hq hl
      have hm : ¬ (QueueRecord.checkpoint none).merges cleared.es.queue = true :=
        fun h => hq ((merges_iff _ _).mp h).2
      rw [offer_admitted r (by rw [ha]; simp), ha, offer_of_space (s := cleared) rfl hm hl]
    · have hm : ¬ r.merges s.es.queue = true := fun h => hq ((merges_iff _ _).mp h).2
      have hfull : ¬ s.es.queue.length < 4 := Nat.not_lt.mpr hl
      simp only [offer, admitCritical_of_full hw hq hl, hm, queueLimit, hfull, if_false, Bool.false_eq_true]
      cases r <;> rfl
  · refine ⟨fun h => ?_, fun hs hn => ?_⟩
    · refine (foldEpisode_eq e s).trans (if_neg ?_)
      rintro ⟨hs, hn⟩
      rcases h with h | h
      · omega
      · simp [hn] at h
    · exact (foldEpisode_eq e s).trans (if_pos ⟨hs, hn⟩)

/-! ## The end of a write (R127, R128) -/

/-- What follows a write that left the state `u` with `rest` behind the record: a HALTED part holds the queue; a RUNNING
one folds the episodes that find 96 stored and writes the record behind them, or is idle (R127, R130, R133, R140). -/
def WritesOn (activity : Activity) (rest : List QueueRecord) (u : State)
    (ends : Host.Outcome State Fault Refusal) : Prop :=
  (activity = .halted → ends = .next { u with es := { u.es with state := .idle, queue := rest } })
  ∧ (∀ (folds : List Episode) (behind : List QueueRecord), activity = .running →
    rest = folds.map QueueRecord.episode ++ behind → (folds ≠ [] → 96 ≤ u.es.storedCount) →
    let v := folds.foldl (fun v e => foldEpisode e v) u
    (behind = [] → ends = .next { v with es := { v.es with state := .idle, queue := [] } })
    ∧ (∀ r tail, behind = r :: tail →
      ((∀ e, r = .episode e → u.es.storedCount < 96) → (∀ c, r ≠ .checkpoint c) → (∀ l, r ≠ .leg l) →
        ends = .next (writing (r :: tail) v))
      ∧ (∀ l, r = .leg l → ends = .next (writing (r :: tail)
          { v with nv := { v.nv with legs := v.nv.legs.set (l.number - 1) none } }))
      ∧ (∀ c, r = .checkpoint c → ends = .next
          (writing (.checkpoint (some (sealCheckpoint (checkpointContent v))) :: tail)
            { v with nv := { v.nv with checkpoints := v.nv.checkpoints.set v.es.ringPosition none } }))))

theorem storedCount_foldl (folds : List Episode) (u : State) :
    (folds.foldl (fun v e => foldEpisode e v) u).es.storedCount = u.es.storedCount := by
  induction folds generalizing u with
  | nil => rfl
  | cons e folds ih => rw [List.foldl_cons, ih]; simp

theorem nextWrite_writesOn {u : State} {activity : Activity} {rest : List QueueRecord} (ha : u.sf.activity = activity)
    (hq : u.es.queue.tail = rest) : WritesOn activity rest u (.next (nextWrite u)) := by
  subst ha hq
  refine ⟨fun h => congrArg _ (nextWrite_of_halted h), fun folds behind h hrest hfull => ?_⟩
  rw [nextWrite_of_running h, hrest, writeHead_folds folds behind hfull]
  refine ⟨fun hb => ?_, fun r tail hb => ⟨fun he hc hl => ?_, fun l hr => ?_, fun c hr => ?_⟩⟩
  · rw [hb]
    rfl
  · rw [hb, writeHead_plain tail (fun e hr => by rw [storedCount_foldl]; exact he e hr) hc hl]
  · rw [hb, hr]
    rfl
  · rw [hb, hr]
    rfl

/-- Settles O49: the end of each kind's write, and then the next write. -/
theorem recordWriteEnds : Obligations.RecordWriteEnds := by
  intro s verified below busy ok rest hp hw hok started content goesOn
  have ends (r : QueueRecord) (hq : s.es.queue = r :: rest) :
      exec (.storeWriteEnd verified below busy) s = .next (recordEnds ok busy r s) := by
    rw [exec_storeWriteEnd s verified below busy hp hw r rest hq, hok]
  have goes (r : QueueRecord) (u : State) (hq : s.es.queue = r :: rest) (hends : recordEnds ok busy r s = nextWrite u)
      (ha : u.sf.activity = s.sf.activity) (hqu : u.es.queue = s.es.queue) : goesOn u := by
    show WritesOn s.sf.activity rest u (exec (.storeWriteEnd verified below busy) s)
    rw [ends r hq, hends]
    exact nextWrite_writesOn ha (by rw [hqu, hq]; rfl)
  refine ⟨fun e hq => goes _ _ hq ?_ ?_ ?_, fun l hq => goes _ _ hq ?_ ?_ ?_, fun c hq => goes _ _ hq ?_ ?_ ?_⟩
  · cases ok <;> rfl
  · cases ok
    · exact foldEpisode_activity e _
    · rfl
  · cases ok
    · exact (foldEpisode_queue e _).1
    · rfl
  · cases ok <;> rfl
  · cases ok <;> rfl
  · cases ok <;> rfl
  · cases ok <;> rfl
  · cases ok <;> rfl
  · cases ok <;> rfl

/-! ## The commissioning write (R6, R7) and the certificate's (R14) -/

/-- A mode selection writes the mode that R49 selects and the compare buffer, and nothing else (R49, R51). -/
theorem selectMode_eq (s : State) : ∃ mode buffer, selectMode s = { s with tb := { s.tb with mode := mode, buffer := buffer } }
    ∧ mode = modeFor s.sf.supply s.tb.interval s.tb.fastUntil := by
  unfold selectMode
  dsimp only
  split
  · exact ⟨_, _, rfl, Eq.symm ‹_›⟩
  · exact ⟨_, _, rfl, rfl⟩

/-- The blocks at the entry to PRECOOL (R6), with the mode and the buffer that R49 and R51 give. -/
def precoolState (mode : Mode) (buffer : Nat) (s : State) : State :=
  { s with
    cu := { s.cu with custody := .precool, causes := Causes.empty, breakInterval := none, custodyStart := none }
    tb := { s.tb with
      interval := 0, phase := 0, quarter := 0, mode := mode, fastUntil := 0, compare := some 0, buffer := buffer
      riseRef := none, riseBuffer := none, alertInterval := none, beaconOffset := beaconOffsetOf s.info.serial 0 }
    ie := { ExposureBlock.blank with cur := some (Accumulator.empty 0) }
    lc := { s.lc with content := some precoolContent }
    es := { s.es with
      storedCount := 0, openExcursion := none, openGap := none, openCover := none, overflow := Overflow.zero
      ringPosition := 0, sequence := 0, logFullNoted := false } }

theorem enterPrecool_eq (s : State) : ∃ mode buffer, enterPrecool s = precoolState mode buffer s
    ∧ mode = if s.sf.supply = .good then .steady else .lean := by
  rw [← modeFor_zero]
  exact selectMode_eq _

theorem profileWritten_eq (r : ProfileRecord) (busy : Bool) {s : State} {who : Asker} (h : s.cu.held = some who) :
    ∃ mode buffer u, profileWritten r busy s = placeReply ⟨who, .ok, 3, r.bytes⟩ busy u
      ∧ u = { precoolState mode buffer { s with nv := { s.nv with profile := some r } } with
          cu := { (precoolState mode buffer s).cu with held := none } }
      ∧ mode = if s.sf.supply = .good then .steady else .lean := by
  obtain ⟨mode, buffer, hpre, hmode⟩ := enterPrecool_eq { s with nv := { s.nv with profile := some r } }
  refine ⟨mode, buffer, _, ?_, rfl, hmode⟩
  unfold profileWritten
  rw [hpre, h]
  rfl

/-- Settles O48: the profile's record is alone in the queue, so the store is idle after its write; the entry to PRECOOL
sets R6's values before the reply is placed. -/
theorem commissioningWriteEnds : Obligations.CommissioningWriteEnds := by
  intro s r who busy hp hw hq hh
  refine ⟨?_, ?_⟩
  · have hends : exec (.storeWriteEnd true false busy) s = .next (profileWritten r busy (nextWrite s)) :=
      exec_storeWriteEnd s true false busy hp hw _ [] hq
    rw [nextWrite_last s (.profile r) hq] at hends
    obtain ⟨mode, buffer, u, hwritten, rfl, hmode⟩ := profileWritten_eq r busy
      (s := { s with es := { s.es with state := .idle, queue := [] } }) hh
    exact ⟨_, hends.trans (congrArg _ hwritten),
      rfl, rfl, rfl, rfl, rfl, rfl, rfl, rfl, hmode, rfl, rfl, rfl, rfl, rfl, rfl, rfl, rfl, rfl, rfl⟩
  · have hends : exec (.storeWriteEnd false false busy) s
        = .next (profileFailed busy (nextWrite (noteNow .storeFail [1, 0] s))) :=
      exec_storeWriteEnd s false false busy hp hw _ [] hq
    have hheld : (noteNow .storeFail [1, 0] s).cu.held = some who := hh
    rw [nextWrite_last (noteNow .storeFail [1, 0] s) (.profile r) hq, profileFailed, hheld] at hends
    exact ⟨_, hends, rfl, rfl, rfl, rfl, rfl, rfl, rfl, rfl, rfl⟩

theorem closingReady_of_record {s : State} {item : ClosingItem} {rest : List ClosingItem} (h : s.cu.custody = .closing)
    (hc : s.cu.closing = item :: rest) (hi : item ≠ .certificate) : s.closingReady = true ↔ s.es.queue.length < 4 := by
  cases item with
  | certificate => exact absurd rfl hi
  | _ =>
    simp only [State.closingReady, h, hc, decide_true, Bool.true_and]
    exact decide_eq_true_iff

theorem closingReady_of_certificate {s : State} {rest : List ClosingItem} (h : s.cu.custody = .closing)
    (hc : s.cu.closing = .certificate :: rest) : s.closingReady = s.es.queue.isEmpty := by
  simp [State.closingReady, h, hc]

theorem exec_closingRecordHandover {s : State} (hp : s.powered = true) :
    exec .closingRecordHandover s = .next (handOverClosing s) :=
  congrArg Host.Outcome.next (if_pos hp)

theorem handOverClosing_of_not_ready {s : State} (h : s.closingReady = false) : handOverClosing s = s := by
  simp [handOverClosing, h]

/-- The certificate's write starts at once in an idle store of a RUNNING part (R127). -/
theorem offer_certificate_of_idle {s : State} (c : Certificate) (hw : s.es.criticalWaiting = false)
    (hq : s.es.queue = []) (hi : s.es.state = .idle) (ha : s.sf.activity = .running) :
    offer (.certificate c) s = writing [.certificate c] s := by
  rw [offer_of_space hw (by simp [QueueRecord.merges]) (by simp [hq]), joinQueue_of_idle _ hq hi ha]
  rfl

/-- Settles O50: the certificate's write is the last of the queue; the hand-over by the item at the front and the room. -/
theorem closingRecordsWritten : Obligations.ClosingRecordsWritten := by
  refine ⟨fun s c who busy hp hw hq hh => ⟨?_, ?_⟩, fun s item rest hp hclosing hitems => ⟨fun hl => ?_, fun hl => ?_,
    fun hi hq => ?_, fun hi hq hidle ha hcw => ?_⟩⟩
  · have hends : exec (.storeWriteEnd true false busy) s = .next (certificateEnds true c busy (nextWrite s)) :=
      exec_storeWriteEnd s true false busy hp hw _ [] hq
    rw [nextWrite_last s (.certificate c) hq, certificateEnds, hh] at hends
    exact hends
  · have hends : exec (.storeWriteEnd false false busy) s
        = .next (certificateEnds false c busy (nextWrite (noteNow .storeFail [5, 0] s))) :=
      exec_storeWriteEnd s false false busy hp hw _ [] hq
    have hheld : (noteNow .storeFail [5, 0] s).cu.held = some who := hh
    rw [nextWrite_last (noteNow .storeFail [5, 0] s) (.certificate c) hq, certificateEnds, hheld] at hends
    exact hends
  · rw [exec_closingRecordHandover hp, handOverClosing_of_not_ready]
    by_cases hi : item = .certificate
    · subst hi
      rw [closingReady_of_certificate hclosing hitems, List.isEmpty_eq_false_iff]
      exact List.ne_nil_of_length_pos (by omega)
    · exact Bool.eq_false_iff.mpr fun h => absurd ((closingReady_of_record hclosing hitems hi).mp h) (by omega)
  · have ready (hi : item ≠ .certificate) : s.closingReady = true :=
      (closingReady_of_record hclosing hitems hi).mpr hl
    rw [exec_closingRecordHandover hp]
    refine ⟨fun e hi => ?_, fun l hi => ?_, fun hi => ?_⟩ <;> subst hi <;>
      simp [handOverClosing, ready, hitems]
  · subst hi
    rw [exec_closingRecordHandover hp, handOverClosing_of_not_ready]
    rw [closingReady_of_certificate hclosing hitems, List.isEmpty_eq_false_iff]
    exact hq
  · subst hi
    have hready : s.closingReady = true := by rw [closingReady_of_certificate hclosing hitems, hq]; rfl
    rw [exec_closingRecordHandover hp, handOverClosing, if_pos hready, hitems]
    exact congrArg _ (offer_certificate_of_idle (s := { s with cu := { s.cu with
      closing := rest, certificate := some (computeCertificate false s) } }) _ hcw hq hidle ha)

end Sys2Proof.Machine
end

section
/-! SUPPORT. The supply's crossings (R169, R170, R173), the CRITICAL entry and the halt (R171, R174), the loss of power
(R172) and the power-on of an empty store (R175), with the settled statements beside them. -/

namespace Sys2Proof.Machine

/-! ## Modes set by the supply (R49, R51) -/

theorem selectMode_of_mode {s : State} {m : Mode} (h : modeFor s.sf.supply s.tb.interval s.tb.fastUntil = m) :
    selectMode s = if m = s.tb.mode then s else { s with tb := { s.tb with mode := m, buffer := m.period } } := by
  rw [← h]
  rfl

/-- LEAN is selected whenever the supply is not GOOD; its period goes into the buffer unless it was in force (R49). -/
theorem setSupply_of_lean {x : Supply} (hx : x ≠ .good) (s : State) :
    setSupply x s =
      { s with
        sf := { s.sf with supply := x }
        tb := { s.tb with mode := .lean, buffer := if s.tb.mode = .lean then s.tb.buffer else 60000 } } := by
  have hmode : modeFor x s.tb.interval s.tb.fastUntil = .lean := by
    rw [modeFor_eq, if_neg hx]
  rw [setSupply, selectMode_of_mode hmode]
  by_cases h : s.tb.mode = .lean
  · rw [if_pos h.symm, if_pos h, ← h]
  · rw [if_neg (Ne.symm h), if_neg h]
    rfl

/-! ## The crossings (R169, R170, R173) -/

section
variable {s : State} (hp : s.powered = true)
include hp

theorem exec_supplyLow : exec .supplyLow s = .next (supplyFallsLow s) := congrArg Host.Outcome.next (if_pos hp)

theorem exec_supplyGood : exec .supplyGood s = .next (supplyRisesGood s) := congrArg Host.Outcome.next (if_pos hp)

theorem exec_supplyCritical (busy : Bool) : exec (.supplyCritical busy) s = .next (supplyFallsCritical busy s) :=
  congrArg Host.Outcome.next (if_pos hp)

theorem exec_supplyRecover : exec .supplyRecover s = .next (supplyRecovers s) := congrArg Host.Outcome.next (if_pos hp)

theorem exec_haltReady : exec .haltReady s = .next (halts s) := congrArg Host.Outcome.next (if_pos hp)

theorem exec_criticalCheckpointOffer : exec .criticalCheckpointOffer s = .next (admitCritical s) :=
  congrArg Host.Outcome.next (if_pos hp)

end

theorem supplyFallsLow_of_good {s : State} (h : s.sf.supply = .good) : supplyFallsLow s = fallToLow s := if_pos h

theorem supplyFallsLow_of_other {s : State} (h : s.sf.supply ≠ .good) : supplyFallsLow s = s := if_neg h

theorem supplyRecovers_of_critical {s : State} (h : s.sf.supply = .critical) : supplyRecovers s = riseToLow s := if_pos h

theorem supplyRecovers_of_other {s : State} (h : s.sf.supply ≠ .critical) : supplyRecovers s = s := if_neg h

theorem supplyRisesGood_of_good {s : State} (h : s.sf.supply = .good) : supplyRisesGood s = s := by
  rw [supplyRisesGood, h]

theorem supplyRisesGood_of_low {s : State} (h : s.sf.supply = .low) : supplyRisesGood s = setSupply .good s := by
  rw [supplyRisesGood, h]

theorem supplyRisesGood_of_critical {s : State} (h : s.sf.supply = .critical) :
    supplyRisesGood s = setSupply .good (riseToLow s) := by
  rw [supplyRisesGood, h]

section
variable (busy : Bool) {s : State}

theorem supplyFallsCritical_of_good (h : s.sf.supply = .good) :
    supplyFallsCritical busy s = fallToCritical busy (fallToLow s) := by
  rw [supplyFallsCritical, h]

theorem supplyFallsCritical_of_low (h : s.sf.supply = .low) : supplyFallsCritical busy s = fallToCritical busy s := by
  rw [supplyFallsCritical, h]

theorem supplyFallsCritical_of_critical (h : s.sf.supply = .critical) : supplyFallsCritical busy s = s := by
  rw [supplyFallsCritical, h]

end

theorem fallToLow_supply (s : State) : (fallToLow s).sf.supply = .low := by
  obtain ⟨b, hn, hb⟩ := fallToLow_sf s
  rw [hb]
  exact hn.supply.1

/-- The change from CRITICAL to LOW by the activity: with the halt pending only the level changes, a halted part
recovers (R173, R174). -/
theorem riseToLow_of_running {s : State} (h : s.sf.activity = .running) : riseToLow s = setSupply .low s := by
  have ha : ¬ (setSupply .low s).sf.activity = .halted := by simp [setSupply, h]
  exact if_neg ha

theorem riseToLow_of_halted {s : State} (h : s.sf.activity = .halted) :
    riseToLow s = clearCompare (clearRise (startWrites (radioOn
      { setSupply .low s with sf := { (setSupply .low s).sf with activity := .running } }))) := by
  have ha : (setSupply .low s).sf.activity = .halted := by simp [setSupply, h]
  exact if_pos ha

theorem riseToLow_supply (s : State) : (riseToLow s).sf.supply = .low := by
  cases ha : s.sf.activity with
  | running =>
    rw [riseToLow_of_running ha]
    simp [setSupply]
  | halted =>
    rw [riseToLow_of_halted ha]
    have hsupply := (startWrites_notes (radioOn
      { setSupply .low s with sf := { (setSupply .low s).sf with activity := .running } })).supply.1
    simpa [clearCompare, setSupply] using hsupply

theorem riseToLow_powered (s : State) : (riseToLow s).powered = s.powered := by
  cases ha : s.sf.activity with
  | running =>
    rw [riseToLow_of_running ha]
    simp [setSupply]
  | halted =>
    rw [riseToLow_of_halted ha]
    simp [clearCompare, setSupply]

/-- Settles O51: each crossing from its own level, the two that pass through LOW, and those already made. -/
theorem supplyCrossings : Obligations.SupplyCrossings := by
  intro s hp mode
  have selected (m : Mode) (u : State) (h : modeFor u.sf.supply u.tb.interval u.tb.fastUntil = m) :
      selectMode u = mode m u := selectMode_of_mode h
  refine ⟨fun h => ?_, fun h => ?_, fun h ha => ?_, fun h ha => ?_, fun u busy h hu => ?_, fun u h hu => ?_,
    fun h => ?_, fun h => ?_, fun busy h => ?_, fun h => ?_⟩
  · rw [exec_supplyLow hp, supplyFallsLow_of_good h, fallToLow, clearFast, selected .lean _ rfl]
  · rw [exec_supplyGood hp, supplyRisesGood_of_low h, setSupply, selected _ _ rfl]
    rfl
  · rw [exec_supplyRecover hp, supplyRecovers_of_critical h, riseToLow_of_running ha, setSupply, selected .lean _ rfl]
  · rw [exec_supplyRecover hp, supplyRecovers_of_critical h, riseToLow_of_halted ha, setSupply, selected .lean _ rfl]
    have hmode : radioOn { mode .lean { s with sf := { s.sf with supply := .low } } with
          sf := { (mode .lean { s with sf := { s.sf with supply := .low } }).sf with activity := .running } }
        = mode .lean
          { s with
            sf := { s.sf with supply := .low, activity := .running }
            lc := { s.lc with enable := true, tx := .wait }
            timers := { s.timers with tx := 16 } } := by
      by_cases hm : Mode.lean = s.tb.mode
      · simp only [mode, hm, if_true]
        rfl
      · simp only [mode, hm, if_false]
        rfl
    rw [hmode]
    rfl
  · rw [exec_supplyLow hp, supplyFallsLow_of_good h] at hu
    injection hu with hu
    subst hu
    have hlow := fallToLow_supply s
    have hpower : (fallToLow s).powered = true := by simpa using hp
    refine ⟨hlow, ?_⟩
    rw [exec_supplyCritical hp, exec_supplyCritical hpower, supplyFallsCritical_of_good busy h,
      supplyFallsCritical_of_low busy hlow]
  · rw [exec_supplyRecover hp, supplyRecovers_of_critical h] at hu
    injection hu with hu
    subst hu
    have hlow := riseToLow_supply s
    refine ⟨hlow, ?_⟩
    rw [exec_supplyGood hp, exec_supplyGood ((riseToLow_powered s).trans hp), supplyRisesGood_of_critical h,
      supplyRisesGood_of_low hlow]
  · rw [exec_supplyLow hp, supplyFallsLow_of_other h]
  · rw [exec_supplyGood hp, supplyRisesGood_of_good h]
  · rw [exec_supplyCritical hp, supplyFallsCritical_of_critical busy h]
  · rw [exec_supplyRecover hp, supplyRecovers_of_other h]

/-! ## The halt (R171 step 5, R174) -/

theorem haltReady_iff (s : State) : s.haltReady = true ↔
    s.sf.haltPending = true ∧ s.es.criticalWaiting = false ∧ s.es.queue = [] ∧ s.es.state = .idle
      ∧ s.cu.custody ≠ .closing := by
  simp [State.haltReady, and_assoc]

/-- Settles O53: the report by what the store has left and by the supply. -/
theorem haltReadyHalts : Obligations.HaltReadyHalts := by
  intro s hp ready
  have hready : s.haltReady = true ↔ ready := haltReady_iff s
  rw [exec_haltReady hp]
  refine ⟨fun h hs => ?_, fun h hs => ?_, fun h => ?_⟩
  · rw [halts, if_pos (hready.mpr h), if_pos hs]
  · rw [halts, if_pos (hready.mpr h), if_neg hs]
    rfl
  · rw [halts, if_neg fun h' => h (hready.mp h')]

/-! ## The CRITICAL entry (R171, R174) -/

/-- An abort leaves the converter idle with nothing pending, and its last result as it was (R29). -/
theorem abortBurst_converter (busy : Bool) {s : State} (h : s.mc.burst = .idle → s.mc.triggers = Sources.empty) :
    (abortBurst busy s).mc = ⟨.idle, Sources.empty, s.mc.last⟩ := by
  cases hf : s.mc.burst.flight with
  | none =>
    have hb : s.mc.burst = .idle := by
      cases hb : s.mc.burst with
      | idle => rfl
      | settling f => simp [hb, Burst.flight] at hf
      | converting f codes => simp [hb, Burst.flight] at hf
    rw [abortBurst_of_idle busy hb, ← hb, ← h hb]
  | some fl =>
    rw [abortBurst_of_flight busy hf]
    dsimp only
    split <;> simp

/-- The state that the CRITICAL level leaves, the halt pending, before R171's steps. -/
def criticalFallen (s : State) : State :=
  { s with
    sf := { s.sf with supply := .critical, haltPending := true }
    tb := { s.tb with mode := .lean, buffer := if s.tb.mode = .lean then s.tb.buffer else 60000 } }

/-- The state after steps 1 to 3 of R171: burst and deferred close, radio, table. -/
def haltEntered (closed : State) : State :=
  { closed with
    lc := { closed.lc with
      enable := false, tx := .idle, served := none, attempts := 0, onAir := none, beaconSlot := none, replySlot := none }
    nt := List.replicate 24 none }

theorem fallToCritical_of_running (busy : Bool) {s : State} (h : s.sf.haltPending = false) :
    fallToCritical busy s = offerCritical (haltEntered (runDeferred (abortBurst busy (criticalFallen s)))) := by
  have hfall : setSupply .critical s = { criticalFallen s with sf := { s.sf with supply := .critical } } :=
    setSupply_of_lean (by simp) s
  have hn : ¬ s.sf.haltPending = true := by simp [h]
  rw [fallToCritical, hfall, if_neg hn]
  rfl

theorem fallToCritical_of_pending (busy : Bool) {s : State} (h : s.sf.haltPending = true) :
    fallToCritical busy s = setSupply .critical s := by
  have hp : (setSupply .critical s).sf.haltPending = true := by simpa [setSupply] using h
  exact if_pos hp

theorem runDeferred_of_some {s : State} {acc : Accumulator} (h : s.ie.old = some acc) :
    runDeferred s = { closeInterval false acc s with ie := { (closeInterval false acc s).ie with old := none } } := by
  unfold runDeferred
  rw [h]

/-- A checkpoint offered at the CRITICAL entry stands in the queue, started or not, or waits for room (R129). -/
theorem admitCritical_checkpoint {s : State} (h : s.es.criticalWaiting = true) :
    (∃ c, QueueRecord.checkpoint c ∈ (admitCritical s).es.queue) ∨ (admitCritical s).es.criticalWaiting = true := by
  by_cases hq : QueueRecord.checkpoint none ∈ s.es.queue
  · rw [admitCritical_of_merging h hq]
    exact .inl ⟨none, hq⟩
  · by_cases hl : s.es.queue.length < 4
    · rw [admitCritical_of_space h hq hl, joinQueue, startWrites]
      left
      split
      · exact writeHead_checkpoint _ _ none (by simp)
      · exact ⟨none, by simp⟩
    · rw [admitCritical_of_full h hq (Nat.not_lt.mp hl)]
      exact .inr h

/-- A deferred close belongs to a state in service, which its close does not leave (R63, R65). -/
theorem runDeferred_inService {s : State} (h : s.CustodySound) {u : State} (hcu : u.cu = s.cu) (hie : u.ie = s.ie) :
    (runDeferred u).cu.custody.inService = s.cu.custody.inService := by
  cases ho : u.ie.old with
  | none => rw [runDeferred_of_none ho, hcu]
  | some acc =>
    have hservice : s.cu.custody.inService = true := h.accumulators (.inr (by rw [← hie, ho]; rfl))
    have hadvance := closeInterval_advances false acc (s := u) (by rw [hcu]; exact hservice) (by rw [hcu]; exact h.cuSound)
    rw [runDeferred_of_some ho, hservice]
    exact hadvance.custody.inService (by rw [hcu]; exact hservice)

/-- Settles O52: R171's steps in their order, the checkpoint in service, the second fall, and the checkpoint that waits
for room. -/
theorem criticalEntry : Obligations.CriticalEntry := by
  refine ⟨fun s busy hp hs hh hconv hcust hcw => ?_, fun s busy hp hs hh => ?_, fun s hp hcw => ?_⟩
  · intro fallen aborted closed v
    have hv : v = haltEntered (runDeferred aborted) := by
      show haltEntered closed = _
      congr 1
      have hie : aborted.ie = s.ie := by simp [aborted, fallen]
      cases ho : s.ie.old with
      | none => simp only [closed, ho, runDeferred_of_none (hie.symm ▸ ho)]
      | some acc => simp only [closed, ho, runDeferred_of_some (hie.symm ▸ ho)]
    have hexec : exec (.supplyCritical busy) s = .next (offerCritical v) := by
      rw [exec_supplyCritical hp, supplyFallsCritical_of_low busy hs, fallToCritical_of_running busy hh, hv]
      rfl
    have hmc : v.mc = ⟨.idle, Sources.empty, s.mc.last⟩ := by
      rw [hv]
      simpa [haltEntered] using abortBurst_converter busy (s := fallen) hconv.idle
    have hservice : v.cu.custody.inService = s.cu.custody.inService := by
      rw [hv]
      exact runDeferred_inService hcust (by simp [aborted, fallen]) (by simp [aborted, fallen])
    have hpower : v.powered = true := by
      rw [hv]
      simpa [haltEntered, aborted, fallen] using hp
    have hout (h : s.cu.custody.inService = false) : offerCritical v = v :=
      if_neg (by rw [hservice, h]; exact Bool.false_ne_true)
    have hin (h : s.cu.custody.inService = true) :
        offerCritical v = admitCritical { v with es := { v.es with criticalWaiting := true } } :=
      if_pos (hservice.trans h)
    obtain ⟨hsupply, hactivity, hpending⟩ : (offerCritical v).sf.supply = .critical
        ∧ (offerCritical v).sf.activity = s.sf.activity ∧ (offerCritical v).sf.haltPending = true := by
      have hnotes : NotesOnly fallen.sf v.sf := by
        rw [hv]
        exact (abortBurst_notes busy fallen).trans (runDeferred_notes aborted)
      exact (hnotes.trans (offerCritical_notes v)).supply
    have hold : v.ie.old = none := by
      rw [hv]
      exact runDeferred_old aborted
    refine ⟨_, hexec, hout, fun h => ?_, hsupply, hpending, hactivity, ?_, ?_, ?_, ?_, ?_, ?_, ?_, ?_, ?_, ?_, ?_, ?_,
      fun h => ?_, fun h => ?_⟩
    · rw [hin h]
      exact exec_criticalCheckpointOffer hpower
    · simp [hmc]
    · simp [hmc, Sources.empty]
    · simp [hmc]
    · simp [hold]
    · simp [v]
    · simp [v]
    · simp [v]
    · simp [v]
    · simp [v]
    · simp [v]
    · simp [v]
    · simp [hv, haltEntered, aborted, fallen]
    · rw [hin h]
      exact admitCritical_checkpoint rfl
    · have hclosed : closed = aborted := by
        cases ho : s.ie.old with
        | none => simp only [closed, ho]
        | some acc =>
          have hs := hcust.accumulators (.inr (by rw [ho]; rfl))
          rw [h] at hs
          cases hs
      rw [hout h]
      simp [v, hclosed, aborted, fallen]
  · rw [exec_supplyCritical hp, supplyFallsCritical_of_low busy hs, fallToCritical_of_pending busy hh,
      setSupply_of_lean (by simp)]
  · intro cleared
    rw [exec_criticalCheckpointOffer hp]
    refine ⟨fun hq => ?_, fun hq hl hw => ?_, fun hq hl => ?_⟩
    · rw [admitCritical_of_merging hcw hq]
    · rw [admitCritical_of_space hcw hq hl, joinQueue_of_held _ (.inl (by simp [hw]))]
    · rw [admitCritical_of_full hcw hq hl]

/-! ## The loss of power and the power-on of an empty store (R172, R175) -/

/-- Without power no command but a power-on has an effect (log 8). -/
theorem exec_of_no_power {i : Instr} {s : State} (h : s.powered = false) (hi : ∀ mv, i ≠ .powerOn mv) :
    exec i s = .next s := by
  have hn : ¬ s.powered = true := by simp [h]
  cases i with
  | powerOn mv => exact absurd rfl (hi mv)
  | _ => exact congrArg Host.Outcome.next (if_neg hn)

/-- The level and the activity at power-on by the voltage (R169). -/
theorem supplyAt_eq (mv : Nat) : supplyAt mv =
    (if 2600 ≤ mv then .good else if 2350 ≤ mv then .low else .critical,
      if decide (2350 ≤ mv) then .running else .halted) := by
  unfold supplyAt
  by_cases hg : 2600 ≤ mv
  · have hr : 2350 ≤ mv := by omega
    simp [hg, hr]
  · by_cases hr : 2350 ≤ mv <;> simp [hg, hr]

theorem exec_powerOn_of_blank {s : State} (mv : Nat) (h : s.nv.eraseMarker = true ∨ s.nv.profile = none) :
    exec (.powerOn mv) s = .next { poweredAt mv s with nv := if s.nv.eraseMarker then Areas.empty else s.nv } := by
  show Host.Outcome.next (examineStore (poweredAt mv s)) = _
  have hnv : (poweredAt mv s).nv = s.nv := rfl
  unfold examineStore
  rw [hnv]
  by_cases hm : s.nv.eraseMarker = true
  · rw [if_pos hm, if_pos hm]
  · rw [if_neg hm, if_neg hm, h.resolve_left hm]
    rfl

/-- Settles O54: what is left without power, and the power-on values of an empty store by the voltage. -/
theorem powerLostAndBlankPowerOn : Obligations.PowerLostAndBlankPowerOn := by
  refine ⟨fun s hp => ⟨withoutPower s, congrArg Host.Outcome.next (if_pos hp), rfl, rfl, rfl, rfl, rfl, rfl, rfl, rfl,
    rfl, rfl, rfl⟩, fun i s => exec_of_no_power, fun s mv h => ?_⟩
  intro running supply
  refine ⟨_, exec_powerOn_of_blank mv h, rfl, rfl, rfl, rfl, rfl, rfl, rfl, ?_⟩
  have hrunning : decide ((supplyAt mv).2 = .running) = running := by
    rw [supplyAt_eq]
    by_cases hr : 2350 ≤ mv <;> simp [running, hr]
  have hmode : modeFor (supplyAt mv).1 0 0 = if 2600 ≤ mv then .steady else .lean := by
    rw [supplyAt_eq, modeFor_zero]
    by_cases hg : 2600 ≤ mv
    · simp [hg]
    · by_cases hr : 2350 ≤ mv <;> simp [hg, hr]
  refine ⟨congrArg (fun x : Supply × Activity => SupplyBlock.start x.1 x.2) (supplyAt_eq mv), rfl, rfl, rfl, rfl, rfl, rfl,
    rfl, hmode, rfl, rfl, rfl, ?_⟩
  rw [← hrunning]
  rfl

end Sys2Proof.Machine
end

section
/-! SUPPORT. What a power-on reads out of the store (R141, R175 to R178): the valid checkpoints and the newest of them, the
interval numbers found, the stored episodes and the highest leg; with the settled statements of the restores. -/

namespace Sys2Proof.Machine

/-! ## The valid checkpoints and the newest (R123, R141) -/

theorem valid_iff (c : Checkpoint) : c.valid = true ↔ c = sealCheckpoint c.content :=
  beq_iff_eq.trans ⟨fun h => congrArg (Checkpoint.mk c.content) h.symm, fun h => (congrArg Checkpoint.crc h).symm⟩

theorem mem_validFrom_cons {slot : Option Checkpoint} {rest : List (Option Checkpoint)} {k j : Nat} {x : CheckpointContent} :
    (j, x) ∈ validFrom k (slot :: rest) ↔ (j = k ∧ slot = some (sealCheckpoint x)) ∨ (j, x) ∈ validFrom (k + 1) rest := by
  cases slot with
  | none => simp [validFrom]
  | some c =>
    have hc : c = sealCheckpoint x ↔ c.valid = true ∧ x = c.content :=
      ⟨fun h => ⟨(valid_iff c).mpr (by rw [h]; rfl), by rw [h]; rfl⟩,
        fun h => by rw [h.2]; exact (valid_iff c).mp h.1⟩
    rw [validFrom]
    split
    · rename_i hv
      simp [hc, hv]
    · rename_i hv
      simp [hc, hv]

/-- The valid checkpoints with their slots are the slots whose CRC agrees (R123). -/
theorem mem_validFrom_iff {slots : List (Option Checkpoint)} {k j : Nat} {x : CheckpointContent} :
    (j, x) ∈ validFrom k slots ↔ ∃ i, j = k + i ∧ slots[i]? = some (some (sealCheckpoint x)) := by
  induction slots generalizing k with
  | nil => simp [validFrom]
  | cons slot rest ih =>
    rw [mem_validFrom_cons, ih]
    constructor
    · rintro (⟨rfl, hslot⟩ | ⟨i, rfl, hi⟩)
      · exact ⟨0, rfl, by simp [hslot]⟩
      · exact ⟨i + 1, by omega, by simpa using hi⟩
    · rintro ⟨i, rfl, hi⟩
      cases i with
      | zero => exact .inl ⟨rfl, by simpa using hi⟩
      | succ i => exact .inr ⟨i, by omega, by simpa using hi⟩

theorem mem_valid_iff {nv : Areas} {k : Nat} {x : CheckpointContent} :
    (k, x) ∈ nv.valid ↔ nv.checkpoints[k]? = some (some (sealCheckpoint x)) := by
  simp [Areas.valid, mem_validFrom_iff]

theorem validFrom_rises (slots : List (Option Checkpoint)) (k : Nat) :
    (validFrom k slots).Pairwise (fun a b => a.1 < b.1) := by
  induction slots generalizing k with
  | nil => exact .nil
  | cons slot rest ih =>
    cases slot with
    | none => exact ih (k + 1)
    | some c =>
      unfold validFrom
      split
      · refine .cons (fun b hb => ?_) (ih (k + 1))
        obtain ⟨i, hi, _⟩ := mem_validFrom_iff.mp hb
        show k < b.1
        omega
      · exact ih (k + 1)

/-- What makes one checkpoint no newer than another: a lower interval number, at the same one a lower sequence, at the
same of both a slot no lower (R141; log 43). -/
def NoNewer (d c : Nat × CheckpointContent) : Prop :=
  d.2.interval < c.2.interval ∨ (d.2.interval = c.2.interval
    ∧ (d.2.sequence < c.2.sequence ∨ (d.2.sequence = c.2.sequence ∧ c.1 ≤ d.1)))

theorem NoNewer.trans {a b c : Nat × CheckpointContent} (h : NoNewer a b) (g : NoNewer b c) : NoNewer a c := by
  unfold NoNewer at *
  omega

theorem newer_iff (a b : CheckpointContent) : a.newer b = true ↔
    b.interval < a.interval ∨ (a.interval = b.interval ∧ b.sequence < a.sequence) := by
  simp [CheckpointContent.newer]

theorem newest_eq_none {xs : List (Nat × CheckpointContent)} : newest xs = none ↔ xs = [] := by
  cases xs with
  | nil => simp [newest]
  | cons c rest =>
    unfold newest
    split
    · simp
    · split <;> simp

/-- Of checkpoints in rising slots the newest is one that none of them is newer than. -/
theorem newest_greatest {xs : List (Nat × CheckpointContent)} (hp : xs.Pairwise (fun a b => a.1 < b.1))
    {c : Nat × CheckpointContent} (h : newest xs = some c) : ∀ d ∈ xs, NoNewer d c := by
  induction xs generalizing c with
  | nil => simp [newest] at h
  | cons a rest ih =>
    obtain ⟨hfirst, hrest⟩ := List.pairwise_cons.mp hp
    have same : NoNewer a a := .inr ⟨rfl, .inr ⟨rfl, le_refl _⟩⟩
    unfold newest at h
    split at h
    · rename_i hn
      rw [← Option.some.inj h, newest_eq_none.mp hn]
      simpa using same
    · rename_i b hb
      have hmax := ih hrest hb
      split at h
      · rename_i hnewer
        rw [← Option.some.inj h]
        have hab : NoNewer a b := by
          have := (newer_iff _ _).mp hnewer
          unfold NoNewer
          omega
        exact fun d hd => (List.mem_cons.mp hd).elim (fun e => e ▸ hab) (hmax d)
      · rename_i hnewer
        rw [← Option.some.inj h]
        have hba : NoNewer b a := by
          have := mt (newer_iff _ _).mpr hnewer
          have := hfirst b (mem_of_newest hb)
          unfold NoNewer
          omega
        exact fun d hd => (List.mem_cons.mp hd).elim (fun e => e ▸ same) fun hd => (hmax d hd).trans hba

theorem newest_valid_greatest {nv : Areas} {c : Nat × CheckpointContent} (h : newest nv.valid = some c) :
    ∀ d ∈ nv.valid, NoNewer d c :=
  newest_greatest (validFrom_rises _ _) h

/-- A valid checkpoint that none is newer than is the newest. -/
theorem newest_eq_some {nv : Areas} {k : Nat} {x : CheckpointContent} (hx : (k, x) ∈ nv.valid)
    (hmax : ∀ d ∈ nv.valid, NoNewer d (k, x)) : newest nv.valid = some (k, x) := by
  cases hn : newest nv.valid with
  | none => rw [newest_eq_none.mp hn] at hx; cases hx
  | some c =>
    have hc := mem_of_newest hn
    have h1 := newest_valid_greatest hn _ hx
    have h2 := hmax _ hc
    have hk : c.1 = k := by
      unfold NoNewer at h1 h2
      omega
    have h3 := mem_valid_iff.mp hc
    rw [hk, mem_valid_iff.mp hx] at h3
    injection h3 with h3
    injection h3 with h3
    rw [← hk, show x = c.2 from congrArg Checkpoint.content h3]

/-! ## The interval numbers found (R175, R176) -/

theorem intervalAfter_of_greatest {found : List Nat} {m : Nat} (hm : m ∈ found) (h : ∀ n ∈ found, n ≤ m) :
    intervalAfter found = min 16777215 (m + 1) := by
  rw [intervalAfter, foldl_max_eq hm (Nat.zero_le m) h]
  rfl

/-- The interval number after those of a list, told by the members alone. -/
theorem intervalAfter_spec {found : List Nat} {P : Nat → Prop} (hP : ∀ n, P n ↔ n ∈ found) :
    ((∀ n, ¬ P n) → intervalAfter found = 1)
      ∧ ∀ m, P m → (∀ n, P n → n ≤ m) → intervalAfter found = min 16777215 (m + 1) := by
  refine ⟨fun h => ?_, fun m hm h => intervalAfter_of_greatest ((hP m).mp hm) fun n hn => h n ((hP n).mpr hn)⟩
  rw [List.eq_nil_iff_forall_not_mem.mpr fun n hn => h n ((hP n).mpr hn)]
  rfl

theorem mem_inSlots {α : Type} {slots : List (Option α)} {x : α} : x ∈ inSlots slots ↔ some x ∈ slots := by
  simp [inSlots]

theorem mem_intervals {nv : Areas} {n : Nat} : n ∈ nv.intervals ↔
    (∃ e, some e ∈ nv.episodes ∧ (n = e.start ∨ e.finish = some n))
      ∨ (∃ l, some l ∈ nv.legs ∧ (n = l.start ∨ l.finish = some n)) := by
  simp [Areas.intervals, mem_inSlots, Option.mem_toList]

/-! ## The stored episodes (R175) -/

/-- The stored episodes are counted up to the first slot that holds none. -/
theorem countStored_eq {slots : List (Option Episode)} {n : Nat} (h : ∀ k < n, ∃ e, slots[k]? = some (some e))
    (hn : ∀ e, slots[n]? ≠ some (some e)) : countStored slots = n := by
  induction slots generalizing n with
  | nil =>
    cases n with
    | zero => rfl
    | succ n =>
      obtain ⟨e, he⟩ := h 0 (by omega)
      simp at he
  | cons slot rest ih =>
    cases n with
    | zero =>
      cases slot with
      | none => rfl
      | some e => exact absurd rfl (hn e)
    | succ n =>
      obtain ⟨e, he⟩ := h 0 (by omega)
      have hslot : slot = some e := by simpa using he
      have hcount := ih (n := n) (fun k hk => by simpa using h (k + 1) (by omega)) (by simpa using hn)
      rw [hslot, countStored, hcount]

/-! ## The restore into CLOSED (R166, R175) -/

theorem exec_powerOn_of_certificate {s : State} {p : ProfileRecord} {c : Certificate} (mv : Nat)
    (hm : s.nv.eraseMarker = false) (hp : s.nv.profile = some p) (hc : s.nv.certificate = some c) :
    exec (.powerOn mv) s = .next (comeUpClosed p c (poweredAt mv s)) := by
  show Host.Outcome.next (examineStore (poweredAt mv s)) = _
  have hnv : (poweredAt mv s).nv = s.nv := rfl
  unfold examineStore
  rw [hnv, hm, hp, hc]
  rfl

theorem mem_closedInterval {nv : Areas} {c : Certificate} (hc : nv.certificate = some c) {n : Nat} :
    n ∈ nv.valid.map (·.2.interval) ++ nv.intervals ++ (nv.certificate.bind (·.endInterval)).toList ↔
      (∃ k x, (k, x) ∈ nv.valid ∧ n = x.interval)
        ∨ (∃ e, some e ∈ nv.episodes ∧ (n = e.start ∨ e.finish = some n))
        ∨ (∃ l, some l ∈ nv.legs ∧ (n = l.start ∨ l.finish = some n)) ∨ c.endInterval = some n := by
  rw [List.mem_append, List.mem_append, mem_intervals, hc]
  simp [Option.mem_toList, or_assoc, eq_comm]

/-- Fast-until as the timebase takes it at power-on by the voltage (R60). -/
theorem fastFrom_powered (mv : Nat) (s : State) (f : Nat) :
    fastFrom (poweredAt mv s).sf.supply f = if 2600 ≤ mv then f else 0 := by
  show fastFrom (supplyAt mv).1 f = _
  rw [supplyAt_eq]
  by_cases hg : 2600 ≤ mv
  · simp [fastFrom, hg]
  · by_cases hr : 2350 ≤ mv <;> simp [fastFrom, hg, hr]

/-- The ring position after a checkpoint is the slot behind its own (R141). -/
theorem ringAfter_position (used : Option (Nat × CheckpointContent)) :
    (ringAfter used).1 = match used with | some (k, _) => (k + 1) % 8 | none => 0 := by
  cases used <;> rfl

theorem certificateNow_of_record {s : State} {c : Certificate} (h : s.cu.custody = .closed)
    (hc : s.nv.certificate = some c) : certificateNow s = c := by
  rw [certificateNow, if_pos h, hc]

/-- Settles O55: the newest checkpoint is the one given, and the blocks take their values from it and the certificate. -/
theorem powerOnClosed : Obligations.PowerOnClosed := by
  intro s mv p c newestOne hmarker hprofile hcert validAt hnone hsome base found
  have hnewest : newest s.nv.valid = newestOne := by
    cases newestOne with
    | none =>
      rw [newest_eq_none]
      exact List.eq_nil_iff_forall_not_mem.mpr fun x hx => hnone rfl x.1 x.2 (mem_valid_iff.mp hx)
    | some y =>
      obtain ⟨hvalid, hmax⟩ := hsome y.1 y.2 rfl
      exact newest_eq_some (mem_valid_iff.mpr hvalid) fun d hd => hmax d.1 d.2 (mem_valid_iff.mp hd)
  have hbase {α : Type} (absent : α) (f : CheckpointContent → α) :
      (((newest s.nv.valid).map (·.2)).map f).getD absent = base α absent f := by
    rw [hnewest]
    cases newestOne <;> rfl
  have hfound (n : Nat) : found n ↔
      n ∈ s.nv.valid.map (·.2.interval) ++ s.nv.intervals ++ (s.nv.certificate.bind (·.endInterval)).toList :=
    (or_congr (exists_congr fun _ => exists_congr fun _ => and_congr mem_valid_iff.symm Iff.rfl) Iff.rfl).trans
      (mem_closedInterval hcert).symm
  obtain ⟨hfirst, hafter⟩ := intervalAfter_spec hfound
  have hbefore : ((newest s.nv.valid).map (·.2)).bind (·.before) = base (Option Figures) none (·.before) := by
    rw [hnewest]
    cases newestOne <;> rfl
  have hsequence : (ringAfter (newest s.nv.valid)).2 = base Nat 0 (fun x => min 16777215 (x.sequence + 1)) := by
    rw [hnewest]
    cases newestOne <;> rfl
  refine ⟨_, exec_powerOn_of_certificate mv hmarker hprofile hcert, rfl, rfl, rfl, rfl, rfl, rfl, rfl, ?_, ?_, ?_,
    fun n => countStored_eq, hbase _ _, rfl, rfl, hfirst, hafter, rfl, ?_, rfl, rfl⟩
  · exact certificateNow_of_record rfl hcert
  · rw [← hbefore, ← hbase, ← hbase]
    rfl
  · rw [← hsequence, ← hbase, ← hnewest]
    exact congrArg (fun r => ({ (comeUpClosed p c (poweredAt mv s)).es with ringPosition := r } : StoreBlock))
      (ringAfter_position (newest s.nv.valid))
  · rw [← hbase, ← fastFrom_powered mv s]
    rfl

end Sys2Proof.Machine
end

section
/-! SUPPORT. The restore into BROKEN part by part (R176 to R178, R182): what it takes from the newest checkpoint, the open leg,
the exposure and the counts, its notes and its first writes; with the settled statement beside them. -/

namespace Sys2Proof.Machine

/-! ## The base of the restore (R176) -/

/-- A field of the base is the checkpoint's, or the one of a restore without a checkpoint (R176). -/
theorem getD_field {α : Type} (used : Option CheckpointContent) (zero : CheckpointContent) (f : CheckpointContent → α) :
    f (used.getD zero) = (used.map f).getD (f zero) := by
  cases used <;> rfl

theorem bind_field {α : Type} (used : Option CheckpointContent) (zero : CheckpointContent)
    (f : CheckpointContent → Option α) (h : f zero = none) : f (used.getD zero) = used.bind f := by
  cases used with
  | none => exact h
  | some k => rfl

theorem union_powerLossOnly (c : Causes) : c.union Causes.powerLossOnly = { c with powerLoss := true } := by
  simp [Causes.union, Causes.powerLossOnly, Causes.empty]

theorem losesIntervals_iff (c : Custody) :
    c.losesIntervals = true ↔ c = .chilled ∨ c = .excursion ∨ c = .broken ∨ c = .closing := by
  cases c <;> simp [Custody.losesIntervals]

/-- W and C after the restore: the charges of the stored episodes with the overflow sums (R177). -/
theorem restoredExposure_eq (episodes : List Episode) (o : Overflow) :
    let charges (f : Charges → Nat) : Nat := (episodes.map (fun e => match e.charges with | some c => f c | none => 0)).sum
    restoredExposure episodes o = ⟨min 16777215 (charges (·.warm) + o.warm), min 16777215 (charges (·.cold) + o.cold)⟩ := by
  have hcharges (f : Charges → Nat) : (fun e : Episode => (e.charges.map f).getD 0)
      = fun e => match e.charges with | some c => f c | none => 0 :=
    funext fun e => by cases e.charges <;> rfl
  unfold restoredExposure
  rw [hcharges, hcharges]
  rfl

/-- The counts after the restore: the missing intervals lost where the checkpoint's custody counts them, an open gap run
unbridged, both held at 16,777,215 (R177; log 27). -/
theorem restoredCounts_eq (used : Option CheckpointContent) (base : CheckpointContent) (resume : Nat) :
    restoredCounts used base resume =
      { base.counts with
        lost := min 16777215 (base.counts.lost
          + (used.map fun k => if k.custody = .chilled ∨ k.custody = .excursion ∨ k.custody = .broken
              ∨ k.custody = .closing then resume - 1 - k.interval else 0).getD 0)
        unbridged := min 16777215 (base.counts.unbridged + base.gapRun) } := by
  cases used with
  | none => rfl
  | some k =>
    have hlost : (if k.custody.losesIntervals then resume - 1 - k.interval else 0)
        = if k.custody = .chilled ∨ k.custody = .excursion ∨ k.custody = .broken ∨ k.custody = .closing
          then resume - 1 - k.interval else 0 := if_congr (losesIntervals_iff _) rfl rfl
    unfold restoredCounts
    simp only [hlost]
    rfl

/-! ## The highest leg (R177) -/

theorem highestLeg_eq_none {legs : List Leg} : highestLeg legs = none ↔ legs = [] := by
  cases legs with
  | nil => simp [highestLeg]
  | cons l rest =>
    unfold highestLeg
    split
    · simp
    · split <;> simp

theorem highestLeg_spec {legs : List Leg} {h : Leg} (hh : highestLeg legs = some h) :
    h ∈ legs ∧ ∀ l ∈ legs, l.number ≤ h.number := by
  induction legs generalizing h with
  | nil => simp [highestLeg] at hh
  | cons l rest ih =>
    unfold highestLeg at hh
    split at hh
    · rename_i hn
      rw [← Option.some.inj hh, highestLeg_eq_none.mp hn]
      simp
    · rename_i m hm
      obtain ⟨hmem, hmax⟩ := ih hm
      split at hh
      · rename_i hlt
        rw [← Option.some.inj hh]
        exact ⟨.tail _ hmem, fun x hx => (List.mem_cons.mp hx).elim (fun e => e ▸ hlt.le) (hmax x)⟩
      · rename_i hge
        rw [← Option.some.inj hh]
        exact ⟨.head _, fun x hx => (List.mem_cons.mp hx).elim (fun e => e ▸ le_refl _)
          fun hx => (hmax x hx).trans (Nat.not_lt.mp hge)⟩

/-! ## The open leg (R177; log 18, log 19) -/

section
variable {p : Profile} {stored : List Leg} {base : CheckpointContent} (resume : Nat)

theorem restoredLeg_of_stored {l h : Leg} (hl : base.openLeg = some l) (hh : highestLeg stored = some h)
    (hle : l.number ≤ h.number) :
    restoredLeg p stored base resume =
      if h.number < 16 then (freshLeg (h.number + 1) h.compartment h.carrier resume, h.number + 1)
      else ({ h with finish := none }, 16) := by
  simp [restoredLeg, hl, hh, hle]

theorem restoredLeg_of_open {l : Leg} (hl : base.openLeg = some l)
    (hh : ∀ h, highestLeg stored = some h → h.number < l.number) :
    restoredLeg p stored base resume = (l, base.legCount) := by
  unfold restoredLeg
  rw [hl]
  cases hs : highestLeg stored with
  | none => rfl
  | some h => exact if_neg (Nat.not_le.mpr (hh h hs))

theorem restoredLeg_of_behind {h : Leg} (hl : base.openLeg = none) (hh : highestLeg stored = some h) :
    restoredLeg p stored base resume =
      if base.legCount < 16 then (freshLeg (base.legCount + 1) h.compartment h.carrier resume, base.legCount + 1)
      else if h.number = 16 then ({ h with finish := none }, 16)
      else (freshLeg 16 h.compartment h.carrier resume, 16) := by
  simp [restoredLeg, hl, hh]

theorem restoredLeg_of_none (hl : base.openLeg = none) (hh : highestLeg stored = none) :
    restoredLeg p stored base resume =
      if base.legCount < 16 then (freshLeg (base.legCount + 1) p.compartment p.carrier resume, base.legCount + 1)
      else (freshLeg 16 p.compartment p.carrier resume, 16) := by
  simp [restoredLeg, hl, hh]

end

/-! ## The notes and the writes of the restore (R178, R182; log 20) -/

theorem NotesOnly.context {a b : SupplyBlock} (h : NotesOnly a b) {c : FaultNote} (hc : a.context = some c) :
    b.context = some c := by
  induction h with
  | refl => exact hc
  | tail _ ih => simp [SupplyBlock.noted, ih]

theorem padDatum_of_length {d : List Byte} (h : d.length ≤ 8) : padDatum d = d ++ List.replicate (8 - d.length) 0 := by
  rw [padDatum, List.take_append, List.take_of_length_le h, List.take_replicate, Nat.min_eq_left (by omega)]

/-- The restore before its writes: the blocks, and the notes (R178, R182). -/
def restoreNoted (p : ProfileRecord) (s : State) : State :=
  noteNow .powerLoss (powerLossDatum s.nv.used s.nv.resume)
    (if s.nv.used.isNone then noteNow .checkpointBad [4] (restoreBlocks p s) else restoreBlocks p s)

theorem restore_eq (p : ProfileRecord) (s : State) : restore p s = startWrites (restoreNoted p s) := rfl

theorem restoreNoted_eq (p : ProfileRecord) (s : State) :
    ∃ sf, restoreNoted p s = { restoreBlocks p s with sf := sf } := by
  unfold restoreNoted
  split
  · exact ⟨_, rfl⟩
  · exact ⟨_, rfl⟩

section
variable {s : State}

/-- A HALTED part holds the queue (R130). -/
theorem startWrites_of_halted (h : s.sf.activity = .halted) : startWrites s = s := by
  simp [startWrites, h]

theorem startWrites_of_episode {e : Episode} {rest : List QueueRecord} (hi : s.es.state = .idle)
    (ha : s.sf.activity = .running) (hq : s.es.queue = .episode e :: rest) (hs : s.es.storedCount < 96) :
    startWrites s = writing (.episode e :: rest) s := by
  rw [startWrites, if_pos ⟨hi, ha⟩, hq]
  exact if_neg (Nat.not_le.mpr hs)

theorem startWrites_of_full {folds : List Episode} (hi : s.es.state = .idle) (ha : s.sf.activity = .running)
    (hq : s.es.queue = folds.map QueueRecord.episode) (hs : 96 ≤ s.es.storedCount) :
    startWrites s = writeHead [] (folds.foldl (fun v e => foldEpisode e v) s) := by
  rw [startWrites, if_pos ⟨hi, ha⟩, hq, ← writeHead_folds folds [] fun _ => hs, List.append_nil]

end

theorem foldEpisode_folded (e : Episode) (s : State) :
    (foldEpisode e s).es.overflow.folded = min 65535 (s.es.overflow.folded + 1) := by
  rw [foldEpisode_eq]
  split <;> rfl

theorem exec_powerOn_of_profile {s : State} {p : ProfileRecord} (mv : Nat) (hm : s.nv.eraseMarker = false)
    (hp : s.nv.profile = some p) (hc : s.nv.certificate = none) :
    exec (.powerOn mv) s = .next (restore p (poweredAt mv s)) := by
  show Host.Outcome.next (examineStore (poweredAt mv s)) = _
  have hnv : (poweredAt mv s).nv = s.nv := rfl
  unfold examineStore
  rw [hnv, hm, hp, hc]
  rfl

theorem mem_resume {nv : Areas} {n : Nat} :
    n ∈ (nv.used.map (·.interval)).toList ++ nv.intervals ↔
      (∃ x, nv.used = some x ∧ n = x.interval)
        ∨ (∃ e, some e ∈ nv.episodes ∧ (n = e.start ∨ e.finish = some n))
        ∨ (∃ l, some l ∈ nv.legs ∧ (n = l.start ∨ l.finish = some n)) := by
  rw [List.mem_append, mem_intervals]
  simp [Option.mem_toList, eq_comm]

theorem restoreNoted_notes (p : ProfileRecord) (s : State) : NotesOnly (restoreBlocks p s).sf (restoreNoted p s).sf := by
  unfold restoreNoted
  split
  · exact (noteNow_notes _ _ _).trans (noteNow_notes _ _ _)
  · exact noteNow_notes _ _ _

theorem restore_frame (p : ProfileRecord) (s : State) :
    (restore p s).cu = (restoreBlocks p s).cu ∧ (restore p s).tb = (restoreBlocks p s).tb
      ∧ (restore p s).ie = (restoreBlocks p s).ie ∧ (restore p s).nt = (restoreBlocks p s).nt
      ∧ (restore p s).lc = (restoreBlocks p s).lc
      ∧ (restore p s).es.openLeg = (restoreBlocks p s).es.openLeg
      ∧ (restore p s).es.legCount = (restoreBlocks p s).es.legCount
      ∧ (restore p s).es.storedCount = (restoreBlocks p s).es.storedCount
      ∧ (restore p s).es.ringPosition = (restoreBlocks p s).es.ringPosition
      ∧ (restore p s).es.sequence = (restoreBlocks p s).es.sequence := by
  obtain ⟨sf, h⟩ := restoreNoted_eq p s
  rw [restore_eq, h]
  simp

/-- The open leg and the leg count after the restore are those of R177's cases. -/
theorem restore_leg (p : ProfileRecord) (s : State) :
    let leg := restoredLeg p.profile (inSlots s.nv.legs) (s.nv.used.getD (zeroBase p.profile)) s.nv.resume
    (restore p s).es.openLeg = some leg.1 ∧ (restore p s).es.legCount = leg.2 := by
  obtain ⟨_, _, _, _, _, hleg, hcount, _⟩ := restore_frame p s
  exact ⟨hleg, hcount⟩

/-- The first writes of the restore: held below 2.35 V, begun with the POWER episode, or folded where 96 are stored. -/
theorem restore_writes (p : ProfileRecord) (mv : Nat) (s : State) :
    let base := s.nv.used.getD (zeroBase p.profile)
    let leg := (restoredLeg p.profile (inSlots s.nv.legs) base s.nv.resume).1.number
    let power := powerEpisode leg s.nv.used s.nv.resume
    let brk := breakEpisode leg (s.nv.resume - 1) Causes.powerLossOnly
    let folds : List Episode := power :: if base.causes.nonempty then [] else [brk]
    let t := restore p (poweredAt mv s)
    let before := restoreNoted p (poweredAt mv s)
    (mv < 2350 ∨ t.es.storedCount < 96 → t.es.overflow = base.overflow
        ∧ t.es.state = (if mv < 2350 then .idle else .writing) ∧ t.es.queue = folds.map QueueRecord.episode
        ∧ t.sf = before.sf)
      ∧ (2350 ≤ mv → 96 ≤ t.es.storedCount →
          t = writeHead [] (folds.foldl (fun v e => foldEpisode e v) before)) := by
  intro base leg power brk folds t before
  obtain ⟨sf, hbefore⟩ := restoreNoted_eq p (poweredAt mv s)
  have hstored : t.es.storedCount = before.es.storedCount := by
    show (startWrites before).es.storedCount = _
    simp
  have hes : before.es = (restoreBlocks p (poweredAt mv s)).es := by
    show (restoreNoted p (poweredAt mv s)).es = _
    rw [hbefore]
  have hidle : before.es.state = .idle := by rw [hes]; rfl
  have hqueue : before.es.queue = folds.map QueueRecord.episode := by
    rw [hes]
    show QueueRecord.episode power :: (if base.causes.nonempty then [] else [QueueRecord.episode brk]) = _
    cases hc : base.causes.nonempty <;> simp [folds, hc]
  have hoverflow : before.es.overflow = base.overflow := by rw [hes]; rfl
  have hactivity : before.sf.activity = if decide (2350 ≤ mv) then .running else .halted := by
    have hkept := (restoreNoted_notes p (poweredAt mv s)).supply.2.1
    exact hkept.trans (congrArg Prod.snd (supplyAt_eq mv))
  rw [hstored]
  refine ⟨fun h => ?_, fun hmv hfull => ?_⟩
  · by_cases hmv : mv < 2350
    · have ha : before.sf.activity = .halted :=
        hactivity.trans (if_neg fun h => absurd (of_decide_eq_true h) (Nat.not_le.mpr hmv))
      have ht : t = before := startWrites_of_halted ha
      rw [ht]
      exact ⟨hoverflow, hidle.trans (if_pos hmv).symm, hqueue, rfl⟩
    · have ha : before.sf.activity = .running := hactivity.trans (if_pos (decide_eq_true (Nat.not_lt.mp hmv)))
      have ht : t = writing (folds.map QueueRecord.episode) before :=
        startWrites_of_episode hidle ha hqueue (h.resolve_left hmv)
      rw [ht]
      exact ⟨hoverflow, (if_neg hmv).symm, rfl, rfl⟩
  · exact startWrites_of_full hidle (hactivity.trans (if_pos (decide_eq_true hmv))) hqueue hfull

/-- The fault status before the writes: POWER_LOSS alone, or behind CHECKPOINT_BAD where no checkpoint was valid (R182). -/
theorem restoreNoted_sf (p : ProfileRecord) (mv : Nat) (s : State) :
    let t := restoreNoted p (poweredAt mv s)
    (∀ k, s.nv.used = some k →
      t.sf.context = some ⟨.powerLoss, s.nv.resume, 0, [1] ++ beBytes 3 k.interval ++ beBytes 3 s.nv.resume ++ [0]⟩
        ∧ t.sf.unread = 1 ∧ t.sf.multiple = false ∧ t.sf.sticky = k.sticky ||| (1#22 <<< 21))
      ∧ (s.nv.used = none →
        t.sf.context = some ⟨.checkpointBad, s.nv.resume, 0, [4, 0, 0, 0, 0, 0, 0, 0]⟩
          ∧ t.sf.unread = 2 ∧ t.sf.multiple = true ∧ t.sf.sticky = (1#22 <<< 18) ||| (1#22 <<< 21)) := by
  intro t
  have hnv : (poweredAt mv s).nv = s.nv := rfl
  refine ⟨fun k hk => ?_, fun hn => ?_⟩
  · have ht : t.sf = (restoreBlocks p (poweredAt mv s)).sf.noted .powerLoss ⟨s.nv.resume, 0⟩
        (powerLossDatum (some k) s.nv.resume) := by
      show (restoreNoted p (poweredAt mv s)).sf = _
      unfold restoreNoted
      rw [hnv, hk]
      rfl
    rw [ht, SupplyBlock.noted_of_empty _ _ _ rfl]
    have hdatum : padDatum (powerLossDatum (some k) s.nv.resume)
        = [1] ++ beBytes 3 k.interval ++ beBytes 3 s.nv.resume ++ [0] := by
      rw [padDatum_of_length (by simp [powerLossDatum])]
      simp [powerLossDatum, flagByte]
    refine ⟨?_, rfl, rfl, ?_⟩
    · show some (FaultNote.mk .powerLoss s.nv.resume 0 (padDatum (powerLossDatum (some k) s.nv.resume))) = _
      rw [hdatum]
    · show (s.nv.used.getD (zeroBase p.profile)).sticky ||| FaultCode.powerLoss.bit = _
      rw [hk]
      rfl
  · have ht : t.sf = ((restoreBlocks p (poweredAt mv s)).sf.noted .checkpointBad ⟨s.nv.resume, 0⟩ [4]).noted .powerLoss
        ⟨s.nv.resume, 0⟩ (powerLossDatum none s.nv.resume) := by
      show (restoreNoted p (poweredAt mv s)).sf = _
      unfold restoreNoted
      rw [hnv, hn]
      rfl
    rw [ht, SupplyBlock.noted_of_empty _ _ [4] rfl, SupplyBlock.noted_of_full _ _ _ rfl]
    refine ⟨rfl, rfl, rfl, ?_⟩
    show (s.nv.used.getD (zeroBase p.profile)).sticky ||| FaultCode.checkpointBad.bit ||| FaultCode.powerLoss.bit = _
    rw [hn, show (Option.none.getD (zeroBase p.profile)).sticky = 0#22 from rfl, BitVec.zero_or]
    rfl

/-- Settles O56: the newest checkpoint and the numbers found; then the blocks, the leg, the first writes and the notes. -/
theorem powerOnBroken : Obligations.PowerOnBroken := by
  intro s mv p hmarker hprofile hcert resume used base causes counts overflow missing charges validAt found
  obtain ⟨hcu, htb, hie, hnt, hlc, hopenLeg, hlegCount, hstored, hring, hsequence⟩ := restore_frame p (poweredAt mv s)
  have hfound (n : Nat) : found n ↔ n ∈ (s.nv.used.map (·.interval)).toList ++ s.nv.intervals := mem_resume.symm
  obtain ⟨hfirst, hafter⟩ := intervalAfter_spec hfound
  have hbase {α : Type} (zero : α) (f : CheckpointContent → α) (h : f (zeroBase p.profile) = zero) :
      f (used.getD (zeroBase p.profile)) = base α zero f := by
    subst h
    exact getD_field used _ f
  have hcauses : (used.getD (zeroBase p.profile)).causes = causes := hbase _ (·.causes) rfl
  have hcounts : (used.getD (zeroBase p.profile)).counts = counts := hbase _ (·.counts) rfl
  have hoverflow : (used.getD (zeroBase p.profile)).overflow = overflow := hbase _ (·.overflow) rfl
  obtain ⟨hleg, hcount⟩ := restore_leg p (poweredAt mv s)
  obtain ⟨hpartial, hfull⟩ := restore_writes p mv s
  obtain ⟨hnoted, hbad⟩ := restoreNoted_sf p mv s
  refine ⟨_, exec_powerOn_of_profile mv hmarker hprofile hcert, ?_, ?_, ?_, ?_, ?_, ?_, ?_, ?_, ?_, ?ie, hfirst, hafter, rfl,
    fun h k x hx => ?_, fun k x hx => ⟨?_, fun j y hy => ?_⟩, ?_, ?_, fun n hk hn => ?_, fun h => ?_, fun k c h => ?_,
    ?leg, ?power, ?full, fun k hk => ?_, fun hn => ?_⟩
  case leg =>
    intro leg count highest fresh opens
    have hopen : (used.getD (zeroBase p.profile)).openLeg = leg := hbase _ (·.openLeg) rfl
    have hlegs : (used.getD (zeroBase p.profile)).legCount = count := hbase _ (·.legCount) rfl
    have hopens {l : Leg} {n : Nat} (h : restoredLeg p.profile (inSlots s.nv.legs) (used.getD (zeroBase p.profile)) resume
        = (l, n)) : opens l n :=
      ⟨hleg.trans (congrArg (fun x : Leg × Nat => some x.1) h), hcount.trans (congrArg Prod.snd h)⟩
    refine ⟨?_, fun h hh => ?_, fun l h hl hh hle => ?_, fun l hl hh => ?_, fun h hl hh => ?_, fun hl hh => ?_⟩
    · refine highestLeg_eq_none.trans (List.eq_nil_iff_forall_not_mem.trans (forall_congr' fun l => ?_))
      exact not_congr mem_inSlots
    · obtain ⟨hmem, hmax⟩ := highestLeg_spec hh
      exact ⟨mem_inSlots.mp hmem, fun l hl => hmax l (mem_inSlots.mpr hl)⟩
    · have hr := restoredLeg_of_stored (p := p.profile) resume (hopen.trans hl) hh hle
      exact ⟨fun hlt => hopens (hr.trans (if_pos hlt)), fun hge => hopens (hr.trans (if_neg (Nat.not_lt.mpr hge)))⟩
    · rw [← hlegs]
      exact hopens (restoredLeg_of_open resume (hopen.trans hl) hh)
    · have hr := restoredLeg_of_behind (p := p.profile) resume (hopen.trans hl) hh
      rw [hlegs] at hr
      refine ⟨fun hlt => hopens (hr.trans (if_pos hlt)), fun hge h16 => ?_, fun hge h16 => ?_⟩
      · exact hopens (hr.trans ((if_neg (Nat.not_lt.mpr hge)).trans (if_pos h16)))
      · exact hopens (hr.trans ((if_neg (Nat.not_lt.mpr hge)).trans (if_neg h16)))
    · have hr := restoredLeg_of_none (p := p.profile) resume (hopen.trans hl) hh
      rw [hlegs] at hr
      exact ⟨fun hlt => hopens (hr.trans (if_pos hlt)), fun hge => hopens (hr.trans (if_neg (Nat.not_lt.mpr hge)))⟩
  case power =>
    refine ⟨powerEpisode (restoredLeg p.profile (inSlots s.nv.legs) (used.getD (zeroBase p.profile)) resume).1.number used
      resume, rfl, rfl, rfl, rfl, ?_, rfl, fun h => ?_⟩
    · cases hu : used <;> simp only [powerEpisode, base, hu] <;> rfl
    · obtain ⟨ho, hst, hqueue, _⟩ := hpartial h
      refine ⟨ho.trans hoverflow, hst, ?_⟩
      rw [hqueue, hcauses]
      cases hc : causes.nonempty with
      | true => exact .inl ⟨rfl, rfl⟩
      | false => exact .inr ⟨rfl, _, rfl, rfl, rfl, rfl, rfl⟩
  case full =>
    intro hmv h
    have ht := hfull hmv h
    rw [hcauses] at ht
    refine ⟨congrArg (·.es.queue) ht, congrArg (·.es.state) ht, (congrArg (·.es.overflow.folded) ht).trans ?_⟩
    have hbefore : (restoreNoted p (poweredAt mv s)).es.overflow = overflow := by
      obtain ⟨sf, hr⟩ := restoreNoted_eq p (poweredAt mv s)
      rw [hr]
      exact hoverflow
    cases hc : causes.nonempty with
    | true =>
      show (foldEpisode _ (restoreNoted p (poweredAt mv s))).es.overflow.folded = _
      rw [foldEpisode_folded, hbefore]
      rfl
    | false =>
      show (foldEpisode _ (foldEpisode _ (restoreNoted p (poweredAt mv s)))).es.overflow.folded = _
      rw [foldEpisode_folded, foldEpisode_folded, hbefore, if_neg Bool.false_ne_true]
      omega
  case ie =>
    have hexposure := restoredExposure_eq (inSlots s.nv.episodes) (used.getD (zeroBase p.profile)).overflow
    have hrestored := restoredCounts_eq used (used.getD (zeroBase p.profile)) resume
    have hgap : (used.getD (zeroBase p.profile)).gapRun = base Nat 0 (·.gapRun) := hbase _ (·.gapRun) rfl
    rw [hcounts, hgap] at hrestored
    rw [hie, ← hoverflow, ← hbase 0 (·.consensusRun) rfl, ← hbase 0 (·.precoolCount) rfl,
      ← bind_field used (zeroBase p.profile) (·.before) rfl]
    exact congr (congrArg (fun exposure counts => ({ (restoreBlocks p (poweredAt mv s)).ie with
      exposure := exposure, counts := counts } : ExposureBlock)) hexposure) hrestored
  · rw [hcu]; rfl
  · rw [hcu]; rfl
  · rw [hcu, ← hcauses]
    exact union_powerLossOnly _
  · rw [hcu, ← hcauses, ← bind_field used (zeroBase p.profile) (·.breakInterval) rfl]
    rfl
  · rw [hcu, ← bind_field used (zeroBase p.profile) (·.custodyStart) rfl]
    rfl
  · rw [htb]; rfl
  · rw [htb]; rfl
  · rw [htb]; rfl
  · rw [htb, ← hbase 0 (·.fastUntil) rfl, ← fastFrom_powered mv s]
    rfl
  · have hvalid := mem_valid_iff.mpr hx
    rw [newest_eq_none.mp h] at hvalid
    cases hvalid
  · exact mem_valid_iff.mp (mem_of_newest hx)
  · exact newest_valid_greatest hx _ (mem_valid_iff.mpr hy)
  · rw [hnt]; rfl
  · rw [hlc]; rfl
  · rw [hstored]
    exact countStored_eq hk hn
  · rw [hring, hsequence]
    have hrest : ringAfter (newest s.nv.valid) = (0, 0) := by rw [h]; rfl
    exact ⟨congrArg Prod.fst hrest, congrArg Prod.snd hrest⟩
  · rw [hring, hsequence]
    have hrest : ringAfter (newest s.nv.valid) = ((k + 1) % 8, min 16777215 (c.sequence + 1)) := by rw [h]; rfl
    exact ⟨congrArg Prod.fst hrest, congrArg Prod.snd hrest⟩
  · obtain ⟨hcontext, hrest⟩ := hnoted k hk
    refine ⟨(startWrites_notes _).context hcontext, fun h => ?_⟩
    obtain ⟨_, _, _, hsf⟩ := hpartial h
    rw [hsf]
    exact hrest
  · obtain ⟨hcontext, hrest⟩ := hbad hn
    refine ⟨(startWrites_notes _).context hcontext, fun h => ?_⟩
    obtain ⟨_, _, _, hsf⟩ := hpartial h
    rw [hsf]
    exact hrest

end Sys2Proof.Machine
end

section
/-! SUPPORT. The stages of a close: how it charges, counts and records (R71 to R83), how it covers its interval and compares
it with the peers (R67 to R70, R100 to R103), and what it hands on (R88, R97); with the settled statements beside them. -/

namespace Sys2Proof.Machine

theorem Custody.charges_iff (c : Custody) : c.charges = true ↔ c = .chilled ∨ c = .excursion ∨ c = .broken := by
  cases c <;> simp [Custody.charges]

/-! ## Stage 3 by its cases (R73 to R78) -/

/-- The bridge charges, for each minute of the run at the worse of the figures on its two sides (R76). -/
theorem bridgeCharges_eq (p : Profile) (g : Nat) (before : Option Figures) (f : Figures) :
    bridgeCharges p g before f =
      ⟨g * (max (before.getD f).hi f.hi - p.upper).toNat, g * (p.lower - min (before.getD f).lo f.lo).toNat⟩ := by
  cases before with
  | none => simp [bridgeCharges]
  | some b => rfl

section
variable (p : Profile) (f : Figures) {ie : ExposureBlock}

/-- A run beyond the allowance is counted unbridged, without a charge (R78). -/
theorem chargeCovered_of_mark (hm : ie.mark = true) :
    chargeCovered p f ie =
      ({ ie with
          counts := { ie.counts with unbridged := min 16777215 (ie.counts.unbridged + ie.gapRun) }
          gapRun := 0, mark := false, exposure := addCharges ie.exposure (ownCharges p f), before := some f },
        ⟨ownCharges p f, none, ie.gapRun, false⟩) :=
  if_pos hm

/-- A run within the allowance is bridged before the interval's own charges (R76, R77). -/
theorem chargeCovered_of_run (hm : ie.mark = false) (hr : 0 < ie.gapRun) :
    chargeCovered p f ie =
      ({ ie with
          counts := { ie.counts with bridged := min 16777215 (ie.counts.bridged + ie.gapRun) }
          gapRun := 0
          exposure := addCharges (addCharges ie.exposure (bridgeCharges p ie.gapRun ie.before f)) (ownCharges p f)
          before := some f },
        ⟨ownCharges p f, some (bridgeCharges p ie.gapRun ie.before f), ie.gapRun, false⟩) := by
  rw [chargeCovered, if_neg (by simp [hm]), if_pos hr]
  rfl

theorem chargeCovered_of_none (hm : ie.mark = false) (hr : ie.gapRun = 0) :
    chargeCovered p f ie =
      ({ ie with exposure := addCharges ie.exposure (ownCharges p f), before := some f },
        ⟨ownCharges p f, none, 0, false⟩) := by
  rw [chargeCovered, if_neg (by simp [hm]), if_neg (by simp [hr])]

/-- Whatever run it ends, a covered interval is charged with its own figures, and leaves no run. -/
theorem chargeCovered_settles :
    (chargeCovered p f ie).2.own = ownCharges p f ∧ (chargeCovered p f ie).1.gapRun = 0
      ∧ (chargeCovered p f ie).1.mark = false ∧ (chargeCovered p f ie).1.before = some f
      ∧ (chargeCovered p f ie).2.bridge =
          if ie.mark = false ∧ 0 < ie.gapRun then some (bridgeCharges p ie.gapRun ie.before f) else none := by
  cases hm : ie.mark with
  | true => simp [chargeCovered_of_mark p f hm]
  | false =>
    rcases Nat.eq_zero_or_pos ie.gapRun with hr | hr
    · simp [chargeCovered_of_none p f hm hr, hm, hr]
    · simp [chargeCovered_of_run p f hm hr, hm, hr]

/-- A GAP interval charges nothing; the run grows by one up to 255, and then the unbridged count instead; the mark is set
when the run reaches the allowance plus 1 (R75). -/
theorem chargeGap_eq (ie : ExposureBlock) :
    let run := if ie.gapRun < 255 then ie.gapRun + 1 else ie.gapRun
    let marks := run = p.gapAllowance + 1 ∧ ie.mark = false
    chargeGap p ie =
      ({ ie with
          gapRun := run, mark := ie.mark || decide marks
          counts := { ie.counts with
            unbridged := if ie.gapRun < 255 then ie.counts.unbridged else min 16777215 (ie.counts.unbridged + 1) } },
        ⟨⟨0, 0⟩, none, 0, decide marks⟩) := by
  intro run marks
  have hlonger : (if ie.gapRun < 255 then { ie with gapRun := ie.gapRun + 1 }
      else { ie with counts := { ie.counts with unbridged := satAdd max24 ie.counts.unbridged 1 } })
      = { ie with
          gapRun := run
          counts := { ie.counts with
            unbridged := if ie.gapRun < 255 then ie.counts.unbridged else min 16777215 (ie.counts.unbridged + 1) } } := by
    by_cases hr : ie.gapRun < 255
    · simp only [run, hr, if_true]
    · simp only [run, hr, if_false, satAdd, max24]
  unfold chargeGap
  dsimp only
  rw [hlonger]
  by_cases hm : marks
  · rw [if_pos hm, decide_eq_true hm, Bool.or_true]
  · rw [if_neg hm, decide_eq_false hm, Bool.or_false]

end

/-! ## What a close leaves of stage 3 and what stage 5 counts (R81) -/

theorem countInterval_run (coverage : Coverage) (raised : Bool) (c : Counts) :
    (countInterval coverage raised c).bridged = c.bridged ∧ (countInterval coverage raised c).unbridged = c.unbridged
      ∧ (countInterval coverage raised c).lost = c.lost := by
  cases coverage <;> exact ⟨rfl, rfl, rfl⟩

/-- Stage 5 counts a custody interval and leaves the rest of stage 3 (R81). -/
theorem closeCounted_eq (p : Bool) (acc : Accumulator) (s : State) :
    closeCounted p acc s = { (closeCharges p acc s).1 with
      counts := if isCustodyInterval p acc s then
          countInterval (closeEvidence acc s).coverage (closeConsensus acc s).raised (closeCharges p acc s).1.counts
        else (closeCharges p acc s).1.counts } := by
  unfold closeCounted
  dsimp only
  split <;> rfl

theorem closeInterval_charged (p : Bool) (acc : Accumulator) (s : State) :
    (closeInterval p acc s).ie.exposure = (closeCharges p acc s).1.exposure
      ∧ (closeInterval p acc s).ie.gapRun = (closeCharges p acc s).1.gapRun
      ∧ (closeInterval p acc s).ie.mark = (closeCharges p acc s).1.mark
      ∧ (closeInterval p acc s).ie.before = (closeCharges p acc s).1.before
      ∧ (closeInterval p acc s).ie.counts.bridged = (closeCharges p acc s).1.counts.bridged
      ∧ (closeInterval p acc s).ie.counts.unbridged = (closeCharges p acc s).1.counts.unbridged
      ∧ (closeInterval p acc s).ie.counts.lost = (closeCharges p acc s).1.counts.lost := by
  obtain ⟨_, _, hexposure, hrun, hmark, hbefore, _, hcounts, _⟩ := closeInterval_ie p acc s
  rw [hexposure, hrun, hmark, hbefore, hcounts, closeCounted_eq]
  dsimp only
  split
  · exact ⟨rfl, rfl, rfl, rfl, countInterval_run _ _ _⟩
  · exact ⟨rfl, rfl, rfl, rfl, rfl, rfl, rfl⟩

theorem closeInterval_counts (p : Bool) (acc : Accumulator) (s : State) :
    (closeInterval p acc s).ie.counts =
      if isCustodyInterval p acc s then
        countInterval (closeEvidence acc s).coverage (closeConsensus acc s).raised (closeCharges p acc s).1.counts
      else (closeCharges p acc s).1.counts := by
  obtain ⟨_, _, _, _, _, _, _, hcounts, _⟩ := closeInterval_ie p acc s
  rw [hcounts, closeCounted_eq]

/-- The exposure engine that stage 3 works on: the consensus run is stage 2's (R69). -/
def compared (acc : Accumulator) (s : State) : ExposureBlock := { s.ie with consensusRun := (closeConsensus acc s).run }

section
variable (p : Bool) {acc : Accumulator} {s : State}

theorem closeCharges_covered {f : Figures} (h : s.cu.custody.charges = true) (hf : (closeEvidence acc s).figures = some f) :
    closeCharges p acc s =
      (if p then closeOpenRun (chargeCovered s.profile f (compared acc s)).1
        else (chargeCovered s.profile f (compared acc s)).1, (chargeCovered s.profile f (compared acc s)).2) := by
  rw [closeCharges_custody p acc s h, hf]
  cases p <;> rfl

theorem closeCharges_gap (h : s.cu.custody.charges = true) (hf : (closeEvidence acc s).figures = none) :
    closeCharges p acc s =
      (if p then closeOpenRun (chargeGap s.profile (compared acc s)).1
        else (chargeGap s.profile (compared acc s)).1, (chargeGap s.profile (compared acc s)).2) := by
  rw [closeCharges_custody p acc s h, hf]
  cases p <;> rfl

/-- Outside CHILLED, EXCURSION and BROKEN stage 3 takes the figures for those before, and charges nothing (R71). -/
theorem closeCharges_uncharged (h : s.cu.custody.charges = false) :
    closeCharges p acc s =
      ({ compared acc s with before := match (closeEvidence acc s).figures with | some f => some f | none => s.ie.before },
        ⟨⟨0, 0⟩, none, 0, false⟩) := by
  have hn : ¬ (afterConsensus acc s).cu.custody.charges = true := by simp [h]
  unfold closeCharges chargeStage
  rw [if_neg hn, afterConsensus_ie]
  cases (closeEvidence acc s).figures <;> rfl

end

/-! ## The counts and the gap run together (R75 to R77, R79) -/

/-- The counts of one exposure engine against another's: those of the covered intervals alike, and the bridged and
unbridged intervals with the open run `k` more. -/
structure RunCounted (k : Nat) (a b : ExposureBlock) : Prop where
  own : b.counts.own = a.counts.own
  air : b.counts.air = a.counts.air
  witness : b.counts.witness = a.counts.witness
  raised : b.counts.raised = a.counts.raised
  run : b.counts.bridged + b.counts.unbridged + b.gapRun = a.counts.bridged + a.counts.unbridged + a.gapRun + k

theorem RunCounted.trans {j k : Nat} {a b c : ExposureBlock} (h : RunCounted j a b) (g : RunCounted k b c) :
    RunCounted (j + k) a c :=
  ⟨g.own.trans h.own, g.air.trans h.air, g.witness.trans h.witness, g.raised.trans h.raised,
    by rw [g.run, h.run, Nat.add_assoc]⟩

theorem chargeCovered_counted (p : Profile) (f : Figures) {ie : ExposureBlock}
    (h : ie.counts.bridged + ie.counts.unbridged + ie.gapRun ≤ 16777215) : RunCounted 0 ie (chargeCovered p f ie).1 := by
  cases hm : ie.mark with
  | true =>
    rw [chargeCovered_of_mark p f hm]
    exact ⟨rfl, rfl, rfl, rfl, by simp only; omega⟩
  | false =>
    rcases Nat.eq_zero_or_pos ie.gapRun with hr | hr
    · rw [chargeCovered_of_none p f hm hr]
      exact ⟨rfl, rfl, rfl, rfl, rfl⟩
    · rw [chargeCovered_of_run p f hm hr]
      exact ⟨rfl, rfl, rfl, rfl, by simp only; omega⟩

theorem chargeGap_counted (p : Profile) {ie : ExposureBlock} (h : ie.counts.unbridged < 16777215) :
    RunCounted 1 ie (chargeGap p ie).1 := by
  rw [chargeGap_eq p ie]
  refine ⟨rfl, rfl, rfl, rfl, ?_⟩
  by_cases hr : ie.gapRun < 255
  · simp only [hr, if_true]
    omega
  · simp only [hr, if_false]
    omega

theorem closeOpenRun_counted {ie : ExposureBlock} (h : ie.counts.unbridged + ie.gapRun ≤ 16777215) :
    RunCounted 0 ie (closeOpenRun ie) := by
  refine ⟨rfl, rfl, rfl, rfl, ?_⟩
  simp only [closeOpenRun, satAdd, max24]
  omega

/-- Stage 3 of a custody close: a covered interval keeps the bridged and unbridged intervals and the run together, a GAP
one adds itself to them. -/
theorem closeCharges_counted (p : Bool) {acc : Accumulator} {s : State} (h : s.cu.custody.charges = true)
    (hb : s.ie.counts.bridged + s.ie.counts.unbridged + s.ie.gapRun < 16776255) :
    RunCounted (if (closeEvidence acc s).figures.isSome then 0 else 1) s.ie (closeCharges p acc s).1 := by
  have same : RunCounted 0 s.ie (compared acc s) := ⟨rfl, rfl, rfl, rfl, rfl⟩
  have hrun := same.run
  have closed {k : Nat} (hk : k ≤ 1) {ie : ExposureBlock} (hie : RunCounted k s.ie ie) :
      RunCounted k s.ie (if p then closeOpenRun ie else ie) := by
    have := hie.run
    cases p with
    | false => exact hie
    | true => exact hie.trans (closeOpenRun_counted (by omega))
  cases hf : (closeEvidence acc s).figures with
  | some f =>
    rw [closeCharges_covered p h hf]
    exact closed (Nat.zero_le 1) (same.trans (chargeCovered_counted _ _ (by omega)))
  | none =>
    rw [closeCharges_gap p h hf]
    exact closed (le_refl 1) (same.trans (chargeGap_counted _ (by omega)))

/-! ## The coverage of a close and its figures (R67, R100) -/

theorem mem_of_bestWitness {ps : List Peer} {w : Peer} (h : bestWitness ps = some w) : w ∈ ps := by
  induction ps generalizing w with
  | nil => cases h
  | cons p rest ih =>
    unfold bestWitness at h
    split at h
    · rw [← Option.some.inj h]
      exact .head _
    · rename_i q hq
      split at h
      · rw [← Option.some.inj h]
        exact .tail _ (ih hq)
      · rw [← Option.some.inj h]
        exact .head _

/-- A witness is a neighbour of coverage OWN, and so has figures in a sound table (R90, R100). -/
theorem witnessFor_figures {n : Nat} {s : State} {w : Peer} (h : TableSound s.info.serial s.nt)
    (hw : witnessFor n s = some w) : w.figures.isSome = true := by
  unfold witnessFor at hw
  split at hw
  · cases hw
  · have hmem := mem_of_bestWitness hw
    rw [List.mem_filter, entries, List.mem_filterMap] at hmem
    obtain ⟨⟨slot, hslot, hp⟩, hcandidate⟩ := hmem
    rw [show slot = some w from hp] at hslot
    have hown : w.coverage = .own := by
      simp only [Peer.isCandidate, Bool.and_eq_true, decide_eq_true_eq] at hcandidate
      obtain ⟨⟨⟨⟨_, hown⟩, _⟩, _⟩, _⟩ := hcandidate
      exact hown
    exact (h.measured w hslot).mpr (.inl hown)

/-- The evidence of a close: OWN, AIR and WITNESS come with figures in a sound table, GAP without (R67). -/
theorem witnessEvidence_figures (n : Nat) {s : State} (h : TableSound s.info.serial s.nt) :
    ((witnessEvidence n s).coverage = .witness ∧ (witnessEvidence n s).figures.isSome = true)
      ∨ witnessEvidence n s = .gap := by
  unfold witnessEvidence
  split
  · split
    · rename_i w hw
      exact .inl ⟨rfl, by rw [Option.isSome_map]; exact witnessFor_figures h hw⟩
    · exact .inr rfl
  · exact .inr rfl

theorem coverageOf_figures (acc : Accumulator) {s : State} (h : TableSound s.info.serial s.nt) :
    ((coverageOf acc s).coverage ≠ .gap ∧ (coverageOf acc s).coverage ≠ .none
        ∧ (coverageOf acc s).figures.isSome = true)
      ∨ coverageOf acc s = .gap := by
  have witness : ((witnessEvidence acc.interval s).coverage ≠ .gap ∧ (witnessEvidence acc.interval s).coverage ≠ .none
      ∧ (witnessEvidence acc.interval s).figures.isSome = true) ∨ witnessEvidence acc.interval s = .gap := by
    rcases witnessEvidence_figures acc.interval h with ⟨hc, hf⟩ | hg
    · exact .inl ⟨by simp [hc], by simp [hc], hf⟩
    · exact .inr hg
  unfold coverageOf
  split
  · exact .inr rfl
  · split
    · exact .inl ⟨nofun, nofun, rfl⟩
    · split
      · split
        · exact .inl ⟨nofun, nofun, rfl⟩
        · exact witness
      · exact witness

/-- Stage 2 keeps whether there are figures (R70). -/
theorem consensusOf_isSome (n : Nat) (ev : Evidence) (s : State) :
    (consensusOf n ev s).figures.isSome = ev.figures.isSome := by
  unfold consensusOf
  split
  · rename_i f _ hf
    dsimp only
    repeat' split
    all_goals simp [hf]
  · rfl

/-- An interval is GAP exactly where it has no figures, in a sound table. -/
theorem closeEvidence_figures (acc : Accumulator) {s : State} (h : TableSound s.info.serial s.nt) :
    (closeEvidence acc s).coverage ≠ .none
      ∧ ((closeEvidence acc s).figures.isSome = true ↔ (closeEvidence acc s).coverage ≠ .gap) := by
  have hsame : (closeEvidence acc s).figures.isSome = (coverageOf acc s).figures.isSome := consensusOf_isSome _ _ _
  have hcoverage : (closeEvidence acc s).coverage = (coverageOf acc s).coverage := rfl
  rw [hsame, hcoverage]
  rcases coverageOf_figures acc h with ⟨hgap, hnone, hsome⟩ | hg
  · exact ⟨hnone, fun _ => hgap, fun _ => hsome⟩
  · simp [hg, Evidence.gap]

/-- Only an OWN interval is raised (R70). -/
theorem closeConsensus_raised (acc : Accumulator) (s : State) (h : (closeEvidence acc s).coverage ≠ .own) :
    (closeConsensus acc s).raised = false ∧ (closeConsensus acc s).run = 0
      ∧ (closeConsensus acc s).figures = (coverageOf acc s).figures := by
  have hcoverage : (coverageOf acc s).coverage ≠ .own := h
  unfold closeConsensus consensusOf
  split
  · rename_i hown _
    exact absurd hown hcoverage
  · exact ⟨rfl, rfl, rfl⟩

/-! ## O57 -/

theorem isCustodyInterval_iff (p : Bool) (acc : Accumulator) (s : State) :
    isCustodyInterval p acc s = true ↔
      (s.cu.custody = .chilled ∨ s.cu.custody = .excursion ∨ s.cu.custody = .broken)
        ∨ (s.cu.custody = .precool ∧ p = false ∧ (closeEvidence acc s).coverage = .own
          ∧ ∃ f, (closeEvidence acc s).figures = some f ∧ s.profile.lower ≤ f.lo ∧ f.hi ≤ s.profile.upper) := by
  unfold isCustodyInterval
  rw [Bool.or_eq_true, Custody.charges_iff]
  refine or_congr Iff.rfl ?_
  cases hf : (closeEvidence acc s).figures <;> simp [closeStarts, startsCustody, hf, and_assoc]

/-- The own charges that the record keeps (R73, R82). -/
theorem closeCharges_own (p : Bool) (acc : Accumulator) (s : State) :
    (closeCharges p acc s).2.own = match (closeEvidence acc s).figures with
      | some f => if s.cu.custody.charges then ownCharges s.profile f else ⟨0, 0⟩
      | none => ⟨0, 0⟩ := by
  cases hc : s.cu.custody.charges with
  | false =>
    rw [closeCharges_uncharged p hc]
    cases (closeEvidence acc s).figures <;> rfl
  | true =>
    cases hf : (closeEvidence acc s).figures with
    | none => rw [closeCharges_gap p hc hf, chargeGap_eq]
    | some f =>
      rw [closeCharges_covered p hc hf]
      exact (chargeCovered_settles s.profile f).1

/-- The bridge charges that the record keeps (R76, R82). -/
theorem closeCharges_bridge (p : Bool) (acc : Accumulator) (s : State) :
    (closeCharges p acc s).2.bridge = match (closeEvidence acc s).figures with
      | some f => if s.cu.custody.charges = true ∧ s.ie.mark = false ∧ 0 < s.ie.gapRun then
          some (bridgeCharges s.profile s.ie.gapRun s.ie.before f) else none
      | none => none := by
  cases hc : s.cu.custody.charges with
  | false =>
    rw [closeCharges_uncharged p hc]
    cases (closeEvidence acc s).figures <;> simp
  | true =>
    cases hf : (closeEvidence acc s).figures with
    | none => rw [closeCharges_gap p hc hf, chargeGap_eq]
    | some f =>
      rw [closeCharges_covered p hc hf]
      obtain ⟨_, _, _, _, hbridge⟩ := chargeCovered_settles s.profile f (ie := compared acc s)
      exact hbridge.trans (if_congr (by simp [compared]) rfl rfl)

/-- The counts after a custody interval: the run's as stage 3 left them, the interval's own by its coverage (R81). -/
theorem closeInterval_counted (p : Bool) {acc : Accumulator} {s : State} (hi : isCustodyInterval p acc s = true)
    (hb : s.ie.counts.bridged + s.ie.counts.unbridged + s.ie.gapRun < 16776255) :
    RunCounted (if (closeEvidence acc s).figures.isSome then 0 else 1) s.ie (closeCharges p acc s).1 := by
  cases hc : s.cu.custody.charges with
  | true => exact closeCharges_counted p hc hb
  | false =>
    rcases (isCustodyInterval_iff p acc s).mp hi with hcust | ⟨_, _, _, f, hf, _⟩
    · rw [(Custody.charges_iff _).mpr hcust] at hc
      cases hc
    · rw [hf, closeCharges_uncharged p hc]
      exact ⟨rfl, rfl, rfl, rfl, rfl⟩

theorem closeCharges_lost (p : Bool) (acc : Accumulator) (s : State) :
    (closeCharges p acc s).1.counts.lost = s.ie.counts.lost := by
  have closed (ie : ExposureBlock) : (if p then closeOpenRun ie else ie).counts.lost = ie.counts.lost := by
    cases p <;> rfl
  cases hc : s.cu.custody.charges with
  | false => rw [closeCharges_uncharged p hc]; rfl
  | true =>
    cases hf : (closeEvidence acc s).figures with
    | none =>
      rw [closeCharges_gap p hc hf]
      dsimp only
      rw [closed, chargeGap_eq]
      rfl
    | some f =>
      rw [closeCharges_covered p hc hf]
      dsimp only
      rw [closed]
      unfold chargeCovered
      dsimp only
      repeat' split
      all_goals rfl

/-- Stage 5 counts the interval by its coverage, while no count has reached its bound (R81). -/
theorem countInterval_counts (coverage : Coverage) (raised : Bool) {c : Counts} (ho : c.own < 16777215)
    (ha : c.air < 16777215) (hw : c.witness < 16777215) :
    (countInterval coverage raised c).own = c.own + (if coverage = .own then 1 else 0)
      ∧ (countInterval coverage raised c).air = c.air + (if coverage = .air then 1 else 0)
      ∧ (countInterval coverage raised c).witness = c.witness + (if coverage = .witness then 1 else 0)
      ∧ (c.raised < 16777215 →
          (countInterval coverage raised c).raised = c.raised + if coverage = .own then raised.toNat else 0)
      ∧ (countInterval coverage raised c).bridged = c.bridged
      ∧ (countInterval coverage raised c).unbridged = c.unbridged := by
  have hraised := raised.toNat_le
  cases coverage <;> simp [countInterval, satAdd, max24] <;> omega

/-- Settles O57: the counts through stage 3's run and stage 5's interval, the record of stage 6, and stage 9. -/
theorem closeCountsRecordsAndHandsOn : Obligations.CloseCountsRecordsAndHandsOn := by
  intro partialClose acc s ev raised t custody starts total own bridge s8 s9
  have hcustody : isCustodyInterval partialClose acc s = true ↔ custody ∨ starts := isCustodyInterval_iff _ _ _
  obtain ⟨hexposure, hrun, hmark, _, _, _, hlost⟩ := closeInterval_charged partialClose acc s
  refine ⟨fun hc htable hgap hsmall => ?counts, fun hc => ?uncounted, hlost.trans (closeCharges_lost _ _ _), ?_, ?history,
    rfl, rfl, rfl, ?lc, ?nt⟩
  case counts =>
    have hi := hcustody.mpr hc
    have hcounts : t.ie.counts = countInterval ev.coverage raised (closeCharges partialClose acc s).1.counts :=
      (closeInterval_counts _ _ _).trans (if_pos hi)
    have hcounted := closeInterval_counted partialClose hi (by simp only [total] at hsmall; omega)
    obtain ⟨hnone, hsome⟩ := closeEvidence_figures acc htable
    have hsum := hcounted.run
    simp only [total] at hsmall ⊢
    obtain ⟨hown, hair, hwitness, hraised, hbridged, hunbridged⟩ := countInterval_counts ev.coverage raised
      (c := (closeCharges partialClose acc s).1.counts) (by rw [hcounted.own]; omega) (by rw [hcounted.air]; omega)
      (by rw [hcounted.witness]; omega)
    rw [hcounted.own] at hown
    rw [hcounted.air] at hair
    rw [hcounted.witness] at hwitness
    rw [hcounted.raised] at hraised
    have hfigures : (if (closeEvidence acc s).figures.isSome then 0 else 1)
        + ((if ev.coverage = .own then 1 else 0) + (if ev.coverage = .air then 1 else 0)
          + (if ev.coverage = .witness then 1 else 0)) = 1 := by
      cases hcov : ev.coverage with
      | none => exact absurd hcov hnone
      | gap =>
        rw [Bool.eq_false_iff.mpr fun h => hsome.mp h hcov]
        rfl
      | own => rw [hsome.mpr (by rw [show (closeEvidence acc s).coverage = _ from hcov]; nofun)]; rfl
      | air => rw [hsome.mpr (by rw [show (closeEvidence acc s).coverage = _ from hcov]; nofun)]; rfl
      | witness => rw [hsome.mpr (by rw [show (closeEvidence acc s).coverage = _ from hcov]; nofun)]; rfl
    rw [hcounts, hrun]
    refine ⟨?_, hown, hair, hwitness, fun h => ?_⟩
    · rw [hown, hair, hwitness, hbridged, hunbridged]
      omega
    · rw [hraised h]
      by_cases hcov : ev.coverage = .own
      · rw [if_pos hcov]
      · rw [if_neg hcov, show raised = false from (closeConsensus_raised acc s hcov).1]
        rfl
  case uncounted =>
    have hi : isCustodyInterval partialClose acc s = false := Bool.eq_false_iff.mpr fun h => hc (hcustody.mp h)
    have hcharges : s.cu.custody.charges = false :=
      Bool.eq_false_iff.mpr fun h => hc (.inl ((Custody.charges_iff _).mp h))
    have hcounts : t.ie.counts = (closeCharges partialClose acc s).1.counts :=
      (closeInterval_counts _ _ _).trans (if_neg (by simp [hi]))
    rw [hcounts, hrun, hmark, hexposure, closeCharges_uncharged partialClose hcharges]
    exact ⟨rfl, rfl, rfl, rfl⟩
  case history =>
    have hcharges : s.cu.custody.charges = true ↔ custody := Custody.charges_iff _
    have hown : (closeCharges partialClose acc s).2.own = own := by
      rw [closeCharges_own]
      simp only [own, ev]
      cases (closeEvidence acc s).figures with
      | none => rfl
      | some f => exact if_congr hcharges rfl rfl
    have hbridge : (closeCharges partialClose acc s).2.bridge = bridge := by
      rw [closeCharges_bridge]
      simp only [bridge, ev]
      cases (closeEvidence acc s).figures with
      | none => rfl
      | some f => exact if_congr (and_congr_left' hcharges) (congrArg some (bridgeCharges_eq _ _ _ _)) rfl
    have hactivity : (afterConsensus acc s).sf.activity = s.sf.activity :=
      (applyConsensus_notes _ _ s).supply.2.1
    rw [← hown, ← hbridge, closeInterval_history]
    simp [afterRecord, pushHistory, intervalRecord, hactivity, ev, raised]
  case lc =>
    show (handOn _ _ _ _ _).lc = _
    rw [show t.cu = _ from closeInterval_cu _ _ _]
    unfold handOn
    dsimp only
    split
    · simp [ev, raised]
    · simp [ev, raised]
  case nt =>
    rw [closeInterval_nt, ageTable]
    refine List.map_congr_left fun slot _ => ?_
    cases slot with
    | none => rfl
    | some p => simp [ageSlot]
  · obtain ⟨_, _, _, _, _, _, _, _, hclosed⟩ := closeInterval_ie partialClose acc s
    exact hclosed

end Sys2Proof.Machine
end

section
/-! SUPPORT. The coverage of a close case by case (R67, R68), the median of the consensus set and the raise (R69, R70, R102),
and the exposure after each kind of close (R71 to R79); with the settled statement beside them. -/

namespace Sys2Proof.Machine

/-! ## The median (R69) -/

theorem rising_eq_insertionSort (xs : List Int) : rising xs = xs.insertionSort (· ≤ ·) := by
  have insert (x : Int) (ys : List Int) : insertRising x ys = ys.orderedInsert (· ≤ ·) x := by
    induction ys with
    | nil => rfl
    | cons y ys ih => simp only [insertRising, List.orderedInsert_cons, ih]
  induction xs with
  | nil => rfl
  | cons x xs ih => rw [rising, ih, insert]; rfl

theorem rising_perm (xs : List Int) : (rising xs).Perm xs := by
  rw [rising_eq_insertionSort]
  exact List.perm_insertionSort _ _

theorem rising_pairwise (xs : List Int) : (rising xs).Pairwise (· ≤ ·) := by
  rw [rising_eq_insertionSort]
  exact List.pairwise_insertionSort _ _

/-- In a rising list at most `k` values lie below the one at index `k`, and at least `k + 1` do not lie above it. -/
theorem countP_of_rising {xs : List Int} (h : xs.Pairwise (· ≤ ·)) {k : Nat} (hk : k < xs.length) :
    xs.countP (fun x => decide (x < xs[k])) ≤ k ∧ k + 1 ≤ xs.countP (fun x => decide (x ≤ xs[k])) := by
  have hle {i j : Nat} (hi : i < xs.length) (hj : j < xs.length) (hij : i ≤ j) : xs[i] ≤ xs[j] := by
    rcases Nat.eq_or_lt_of_le hij with rfl | hlt
    · exact le_refl _
    · exact List.pairwise_iff_getElem.mp h i j hi hj hlt
  constructor
  · have hdrop : (xs.drop k).countP (fun x => decide (x < xs[k])) = 0 := by
      rw [List.countP_eq_zero]
      intro x hx
      obtain ⟨i, hi, rfl⟩ := List.mem_iff_getElem.mp hx
      rw [List.getElem_drop]
      have := hle hk (by simp at hi; omega) (Nat.le_add_right k i)
      simpa using this
    calc xs.countP _ = (xs.take k ++ xs.drop k).countP (fun x => decide (x < xs[k])) := by rw [List.take_append_drop]
      _ = (xs.take k).countP (fun x => decide (x < xs[k])) := by rw [List.countP_append, hdrop, Nat.add_zero]
      _ ≤ (xs.take k).length := List.countP_le_length
      _ ≤ k := List.length_take_le _ _
  · have htake : (xs.take (k + 1)).countP (fun x => decide (x ≤ xs[k])) = (xs.take (k + 1)).length := by
      rw [List.countP_eq_length]
      intro x hx
      obtain ⟨i, hi, rfl⟩ := List.mem_iff_getElem.mp hx
      rw [List.getElem_take]
      have := hle (i := i) (j := k) (by simp at hi; omega) hk (by simp at hi; omega)
      simpa using this
    calc k + 1 = (xs.take (k + 1)).length := by rw [List.length_take]; omega
      _ = (xs.take (k + 1)).countP (fun x => decide (x ≤ xs[k])) := htake.symm
      _ ≤ xs.countP _ := (List.take_sublist _ _).countP_le

/-- The median is a value of its list, with less than half of them below it and half of them not above it (R69). -/
theorem medianOf_spec {xs : List Int} (h : xs ≠ []) :
    medianOf xs ∈ xs ∧ (xs.filter (fun x => decide (x < medianOf xs))).length < (xs.length + 1) / 2
      ∧ (xs.length + 1) / 2 ≤ (xs.filter (fun x => decide (x ≤ medianOf xs))).length := by
  have hpos := List.length_pos_iff.mpr h
  have hlen := (rising_perm xs).length_eq
  have hk : (xs.length + 1) / 2 - 1 < (rising xs).length := by omega
  have hmedian : medianOf xs = (rising xs)[(xs.length + 1) / 2 - 1] := List.getD_eq_getElem _ _ hk
  obtain ⟨hbelow, habove⟩ := countP_of_rising (rising_pairwise xs) hk
  rw [← List.countP_eq_length_filter, ← List.countP_eq_length_filter, ← (rising_perm xs).countP_eq,
    ← (rising_perm xs).countP_eq, hmedian]
  exact ⟨(rising_perm xs).mem_iff.mp (List.getElem_mem hk), by omega, by omega⟩

/-! ## Coverage, case by case (R67, R68) -/

section
variable (acc : Accumulator) {s : State}

theorem coverageOf_of_halted (h : s.sf.activity = .halted) : coverageOf acc s = ⟨.gap, none, none⟩ := if_pos h

section
variable {acc} (ha : s.sf.activity = .running)
include ha

theorem coverageOf_of_own {f : Figures} (hp : acc.p = some f) : coverageOf acc s = ⟨.own, some f, none⟩ := by
  simp [coverageOf, ha, hp]

theorem coverageOf_of_air {f : Figures} (hp : acc.p = none) (hf : acc.a = some f) (hu : s.profile.airUse = true) :
    coverageOf acc s = ⟨.air, some (widenBy s.profile.airMargin f), none⟩ := by
  simp [coverageOf, ha, hp, hf, hu]

theorem coverageOf_of_no_air (hp : acc.p = none) (h : acc.a = none ∨ s.profile.airUse = false) :
    coverageOf acc s = witnessEvidence acc.interval s := by
  rcases h with h | h
  · simp [coverageOf, ha, hp, h]
  · cases hf : acc.a <;> simp [coverageOf, ha, hp, h, hf]

end

theorem witnessEvidence_of_witness {n : Nat} {w : Peer} (hu : s.profile.witnessUse = true)
    (hw : witnessFor n s = some w) :
    witnessEvidence n s = ⟨.witness, w.figures.map (widenBy s.profile.witnessMargin), some w.serial⟩ := by
  simp [witnessEvidence, hu, hw]

theorem witnessEvidence_of_none {n : Nat} (h : s.profile.witnessUse = false ∨ witnessFor n s = none) :
    witnessEvidence n s = ⟨.gap, none, none⟩ := by
  rcases h with h | h
  · simp [witnessEvidence, h, Evidence.gap]
  · simp [witnessEvidence, h, Evidence.gap]

end

/-! ## The consensus set and the raise (R69, R70, R102) -/

/-- The Tmax values of the neighbours heard in the interval, in the own compartment, OWN and not raised (R102, R103). -/
theorem consensusSet_eq (n : Nat) (s : State) :
    consensusSet n s = match s.es.openLeg with
      | none => []
      | some leg => s.nt.filterMap (fun slot => match slot with
        | none => none
        | some p =>
          if p.age = 0 ∧ p.arrival.interval = n ∧ p.compartment = leg.compartment ∧ p.coverage = .own
            ∧ p.raised = false then some ((p.figures.map (·.hi)).getD 0) else none) := by
  unfold consensusSet
  cases s.es.openLeg with
  | none => rfl
  | some leg =>
    dsimp only
    induction s.nt with
    | nil => rfl
    | cons slot rest ih =>
      cases slot with
      | none => exact ih
      | some p =>
        have hset : p.inConsensus n leg.compartment = true ↔ p.age = 0 ∧ p.arrival.interval = n
            ∧ p.compartment = leg.compartment ∧ p.coverage = .own ∧ p.raised = false := by
          simp [Peer.inConsensus, Peer.heardIn, and_assoc]
        by_cases h : p.inConsensus n leg.compartment = true
        · simp only [List.filterMap_cons, if_pos (hset.mp h)]
          rw [← ih]
          simp [entries, h]
        · simp only [List.filterMap_cons, if_neg fun h' => h (hset.mpr h')]
          rw [← ih]
          simp [entries, h]

section
variable {acc : Accumulator} {s : State} {f : Figures} (hc : (coverageOf acc s).coverage = .own)
  (hf : (coverageOf acc s).figures = some f)
include hc hf

/-- Stage 2 of an OWN interval (R69, R70). -/
theorem closeConsensus_own :
    let median := medianOf (consensusSet acc.interval s)
    let limit := median - s.profile.disagreement
    let run := min 255 (s.ie.consensusRun + 1)
    closeConsensus acc s =
      if 3 ≤ (consensusSet acc.interval s).length ∧ f.hi < limit then
        if 5 ≤ run then ⟨run, some ⟨clampTemp limit, f.lo⟩, true, median⟩ else ⟨run, some f, false, median⟩
      else ⟨0, some f, false, median⟩ := by
  unfold closeConsensus consensusOf
  rw [hc, hf]
  rfl

theorem closeConsensus_median : (closeConsensus acc s).median = medianOf (consensusSet acc.interval s) := by
  rw [closeConsensus_own hc hf]
  repeat' split
  all_goals rfl

end

/-- The evidence of a close is that of stage 1 unless stage 2 changes its figures (R70). -/
theorem closeEvidence_eq_first {acc : Accumulator} {s : State}
    (h : (closeConsensus acc s).figures = (coverageOf acc s).figures) : closeEvidence acc s = coverageOf acc s := by
  rw [closeEvidence, h]

/-- A raised interval counts in the consensus run (R69, R70). -/
theorem closeConsensus_run_of_raised {acc : Accumulator} {s : State} (h : (closeConsensus acc s).raised = true) :
    (closeConsensus acc s).run = min 255 (s.ie.consensusRun + 1) := by
  have hown : (coverageOf acc s).coverage = .own := by
    by_contra hn
    rw [(closeConsensus_raised acc s hn).1] at h
    cases h
  cases hf : (coverageOf acc s).figures with
  | none =>
    have hnone : (closeConsensus acc s).raised = false := by
      unfold closeConsensus consensusOf
      rw [hown, hf]
    rw [hnone] at h
    cases h
  | some f =>
    revert h
    rw [closeConsensus_own hown hf]
    split
    · split
      · exact fun _ => rfl
      · nofun
    · nofun

/-- What stages 7 to 9 do to the fault status after stage 2: notes. -/
theorem closeInterval_notes_after (p : Bool) (acc : Accumulator) (s : State) :
    NotesOnly (afterConsensus acc s).sf (closeInterval p acc s).sf := by
  have hepisodes : NotesOnly (afterConsensus acc s).sf (afterEpisodes p acc s).sf := by
    unfold afterEpisodes
    split
    · exact (episodeStage_notes acc.interval (closeEvidence acc s) (closeCharges p acc s).2 (afterRecord p acc s))
    · exact .refl
  have hcustody : NotesOnly (afterEpisodes p acc s).sf (afterCustody p acc s).sf := by
    unfold afterCustody
    dsimp only
    split
    · exact custodyStage_notes _ _ _ _
    · exact precoolStage_notes _ _ _ _
  exact (hepisodes.trans hcustody).trans (handOn_notes _ _ _ _ _)

/-- PROBE_COLD_SUSPECT is noted when a raised interval takes the run to 5, and at no other (R70). -/
theorem afterConsensus_sf_of_suspect {acc : Accumulator} {s : State} (hr : (closeConsensus acc s).raised = true)
    (h5 : (closeConsensus acc s).run = 5) :
    (afterConsensus acc s).sf = s.sf.noted .probeColdSuspect ⟨s.tb.interval, s.tb.phase⟩
      (tempBytes (((coverageOf acc s).figures.map (·.hi)).getD 0) ++ tempBytes (closeConsensus acc s).median) := by
  unfold afterConsensus applyConsensus
  rw [if_pos ⟨hr, h5⟩]
  rfl

theorem afterConsensus_sf_of_quiet {acc : Accumulator} {s : State}
    (h : ¬ ((closeConsensus acc s).raised = true ∧ (closeConsensus acc s).run = 5)) :
    (afterConsensus acc s).sf = s.sf := by
  unfold afterConsensus applyConsensus
  rw [if_neg h]

/-- A set that a bit was put into and that has only grown since holds the bit. -/
theorem and_eq_of_or_eq {n : Nat} {a b t : BitVec n} (h : (a ||| b) ||| t = t) : t &&& b = b := by
  rw [← h]
  ext i
  simp only [BitVec.getElem_and, BitVec.getElem_or]
  cases a[i] <;> cases b[i] <;> cases t[i] <;> rfl

/-- The partial close has nothing to end after a covered interval (R79). -/
theorem closedRun_of_none (p : Bool) {ie : ExposureBlock} (hr : ie.gapRun = 0) (hm : ie.mark = false) :
    (if p then closeOpenRun ie else ie).exposure = ie.exposure
      ∧ (if p then closeOpenRun ie else ie).before = ie.before
      ∧ (if p then closeOpenRun ie else ie).counts.bridged = ie.counts.bridged
      ∧ (if p then closeOpenRun ie else ie).gapRun = 0
      ∧ (if p then closeOpenRun ie else ie).mark = false
      ∧ (if p then closeOpenRun ie else ie).counts.unbridged
          = if p then min 16777215 ie.counts.unbridged else ie.counts.unbridged := by
  cases p with
  | false => exact ⟨rfl, rfl, rfl, hr, hm, rfl⟩
  | true => exact ⟨rfl, rfl, rfl, rfl, rfl, by simp [closeOpenRun, satAdd, max24, hr]⟩

theorem or_decide_and_not (m : Bool) (q : Prop) [Decidable q] : (m || decide (q ∧ m = false)) = (m || decide q) := by
  cases m <;> simp

/-- Stage 3 of a GAP interval for a run in its range (R75). -/
theorem chargeGap_bounded (p : Profile) {ie : ExposureBlock} (h : ie.gapRun ≤ 255) :
    let run := min 255 (ie.gapRun + 1)
    chargeGap p ie =
      ({ ie with
          gapRun := run, mark := ie.mark || decide (run = p.gapAllowance + 1)
          counts := { ie.counts with
            unbridged := if ie.gapRun = 255 then min 16777215 (ie.counts.unbridged + 1) else ie.counts.unbridged } },
        ⟨⟨0, 0⟩, none, 0, decide (run = p.gapAllowance + 1 ∧ ie.mark = false)⟩) := by
  have hlonger : (if ie.gapRun < 255 then ie.gapRun + 1 else ie.gapRun) = min 255 (ie.gapRun + 1) := by
    split <;> omega
  have hover : (if ie.gapRun < 255 then ie.counts.unbridged else min 16777215 (ie.counts.unbridged + 1))
      = if ie.gapRun = 255 then min 16777215 (ie.counts.unbridged + 1) else ie.counts.unbridged := by
    by_cases h : ie.gapRun = 255
    · rw [if_neg (by omega), if_pos h]
    · rw [if_pos (by omega), if_neg h]
  rw [chargeGap_eq, hover]
  simp only [hlonger, or_decide_and_not]

/-- Settles O58: coverage by its cases, the consensus by the set and the run, and stage 3 by the custody state, the figures
and the run. -/
theorem closeCoversAndCharges : Obligations.CloseCoversAndCharges := by
  intro partialClose acc s first ev raised t clamp widened
  obtain ⟨hexposure, hrun, hmark, hbefore, hbridged, hunbridged, _⟩ := closeInterval_charged partialClose acc s
  obtain ⟨_, _, _, _, _, _, hconsensus, _⟩ := closeInterval_ie partialClose acc s
  refine ⟨coverageOf_of_halted acc, fun ha => ⟨fun f => coverageOf_of_own ha, fun hp => ⟨fun f => coverageOf_of_air ha hp,
    fun hno => ⟨fun w hu hw => ?_, fun h => ?_⟩⟩⟩, fun h => ?_, fun f hc hf => ?consensus, fun h => ?quiet,
    fun f hc hf => ?covered, fun hp => ?precool, fun hc hf hgap => ?gap⟩
  · exact (coverageOf_of_no_air ha hp hno).trans (witnessEvidence_of_witness hu hw)
  · exact (coverageOf_of_no_air ha hp hno).trans (witnessEvidence_of_none h)
  · obtain ⟨hraised, hzero, hfigures⟩ := closeConsensus_raised acc s h
    exact ⟨closeEvidence_eq_first hfigures, hraised, hconsensus.trans hzero⟩
  case consensus =>
    intro heard median limit
    have hheard : consensusSet acc.interval s = heard := consensusSet_eq _ _
    have hmedian : median = medianOf heard := (closeConsensus_median hc hf).trans (by rw [hheard])
    have hown := closeConsensus_own hc hf
    simp only [hheard, ← hmedian] at hown
    refine ⟨hc, rfl, fun h => ?_, fun h => ?_, fun hthree hlow => ?_⟩
    · rw [hmedian]
      exact medianOf_spec h
    · rw [if_neg (by omega)] at hown
      exact ⟨closeEvidence_eq_first (by rw [hown, hf]), congrArg Consensus.raised hown,
        hconsensus.trans (congrArg Consensus.run hown)⟩
    · rw [if_pos ⟨hthree, hlow⟩] at hown
      have hrun : (closeConsensus acc s).run = min 255 (s.ie.consensusRun + 1) := by
        rw [hown]
        split <;> rfl
      refine ⟨hconsensus.trans hrun, fun h => ?_, fun h => ?_, fun h => ?_⟩
      · rw [if_neg (by omega)] at hown
        exact ⟨closeEvidence_eq_first (by rw [hown, hf]), congrArg Consensus.raised hown⟩
      · rw [if_pos (by omega)] at hown
        exact ⟨congrArg Consensus.figures hown, congrArg Consensus.raised hown⟩
      · rw [if_pos (by omega)] at hown
        have hnoted := afterConsensus_sf_of_suspect (congrArg Consensus.raised hown) (by rw [hrun]; omega)
        have hlater := closeInterval_notes_after partialClose acc s
        rw [hnoted] at hlater
        refine ⟨and_eq_of_or_eq hlater.sticky, fun hempty => hlater.context ?_⟩
        rw [SupplyBlock.noted_of_empty _ _ _ hempty, padDatum_of_length (by simp [tempBytes]), hf]
        simp [tempBytes, median]
  case quiet =>
    refine afterConsensus_sf_of_quiet fun ⟨hraised, h5⟩ => ?_
    have hrun := closeConsensus_run_of_raised hraised
    rcases h with h | h
    · rw [show (closeConsensus acc s).raised = false from h] at hraised
      cases hraised
    · omega
  case covered =>
    have hcharges := closeCharges_covered partialClose hc hf
    obtain ⟨_, hzero, hclear, hlast, _⟩ := chargeCovered_settles s.profile f (ie := compared acc s)
    obtain ⟨hopenExposure, hopenBefore, hopenBridged, hopenRun, hopenMark, hopenUnbridged⟩ :=
      closedRun_of_none partialClose hzero hclear
    rw [hrun, hmark, hexposure, hbefore, hbridged, hunbridged, hcharges]
    dsimp only
    rw [hopenExposure, hopenBefore, hopenBridged, hopenRun, hopenMark, hopenUnbridged]
    refine ⟨hlast, rfl, rfl, fun h => ?_, fun h => ?_, fun hm hr => ?_⟩
    · cases hm : s.ie.mark with
      | true => rw [chargeCovered_of_mark _ _ (ie := compared acc s) hm]; rfl
      | false => rw [chargeCovered_of_none _ _ (ie := compared acc s) hm (h.resolve_left (by simp [hm]))]; rfl
    · rw [chargeCovered_of_mark _ _ (ie := compared acc s) h]
      refine ⟨?_, rfl⟩
      simp only [compared]
      cases partialClose with
      | false => rfl
      | true => exact min_eq_right (min_le_left _ _)
    · rw [chargeCovered_of_run _ _ (ie := compared acc s) hm hr, bridgeCharges_eq]
      exact ⟨rfl, rfl⟩
  case precool =>
    have hc : s.cu.custody.charges = false := by rw [hp]; rfl
    rw [hrun, hmark, hexposure, hbefore, closeCharges_uncharged partialClose hc]
    exact ⟨rfl, rfl, rfl, fun f hf => by rw [show (closeEvidence acc s).figures = _ from hf],
      fun hf => by rw [show (closeEvidence acc s).figures = _ from hf]⟩
  case gap =>
    have hcharges := closeCharges_gap partialClose hc hf
    rw [chargeGap_bounded s.profile (ie := compared acc s) hgap] at hcharges
    rw [hrun, hmark, hexposure, hbefore, hunbridged, hcharges]
    refine ⟨?_, ?_, fun hp => ?_, fun hp => ?_⟩
    · cases partialClose <;> rfl
    · cases partialClose <;> rfl
    · rw [hp]
      exact ⟨rfl, rfl, rfl⟩
    · rw [hp]
      exact ⟨rfl, rfl⟩

end Sys2Proof.Machine
end

section
/-! SUPPORT. Stages 7 and 8 of a custody close: the three open episodes, the open leg, the episodes ended and offered, the
break causes found and the custody state (R10 to R12, R80, R84 to R87, R136); with the settled statement beside them. -/

namespace Sys2Proof.Machine

/-! ## The open episodes (R84 to R86) -/

theorem excursionStage_open (leg n : Nat) (figures : Option Figures) (own : Charges) (open_ : Option Episode) :
    (excursionStage leg n figures own open_).1 = match figures with
      | none => open_
      | some f =>
        if own.warm = 0 ∧ own.cold = 0 then none
        else match open_ with
          | none => some { openEpisode .excursion leg n with warmPeak := f.hi, coldLow := f.lo, charges := some own }
          | some e => some { e with
              warmPeak := max e.warmPeak f.hi, coldLow := min e.coldLow f.lo
              charges := match e.charges with
                | some c => some ⟨min 16777215 (c.warm + own.warm), min 16777215 (c.cold + own.cold)⟩
                | none => some ⟨min 16777215 (0 + own.warm), min 16777215 (0 + own.cold)⟩ } := by
  cases figures with
  | none => rfl
  | some f =>
    unfold excursionStage
    dsimp only
    split
    · rfl
    · cases open_ with
      | none => rfl
      | some e => cases hc : e.charges <;> simp [extendExcursion, addCharges, satAdd, max24, hc]

theorem excursionStage_ended (leg n : Nat) (figures : Option Figures) (own : Charges) (open_ : Option Episode) :
    (excursionStage leg n figures own open_).2.toList =
      if figures ≠ none ∧ own.warm = 0 ∧ own.cold = 0 then open_.toList.map (·.closeAt (n - 1)) else [] := by
  cases figures with
  | none => rfl
  | some f =>
    unfold excursionStage
    by_cases h : own.warm = 0 ∧ own.cold = 0
    · cases open_ <;> simp [h]
    · simp [h]

theorem gapStage_open (leg n : Nat) (figures : Option Figures) (bridge : Option Charges) (open_ : Option Episode) :
    (gapStage leg n figures bridge open_).1 = match figures with
      | none => some (open_.getD (openEpisode .gap leg n))
      | some _ => none := by
  cases figures <;> rfl

theorem gapStage_ended (leg n : Nat) (figures : Option Figures) (bridge : Option Charges) (open_ : Option Episode) :
    (gapStage leg n figures bridge open_).2.toList =
      if figures ≠ none then open_.toList.map (fun e => { e.closeAt (n - 1) with charges := bridge }) else [] := by
  cases figures with
  | none => rfl
  | some f => cases open_ <;> simp [gapStage]

theorem coverStage_open (leg n : Nat) (ev : Evidence) (open_ : Option Episode) :
    let e := open_.getD (openEpisode .cover leg n)
    (coverStage leg n ev open_).1 = match ev.coverage with
      | .own => none
      | .air => some { e with airCount := min 16777215 (e.airCount + 1) }
      | .witness => some { e with
          witnessCount := min 16777215 (e.witnessCount + 1)
          firstWitness := if e.firstWitness = none then ev.witness else e.firstWitness }
      | _ => open_ := by
  intro e
  unfold coverStage
  cases ev.coverage with
  | witness =>
    show some { e with witnessCount := _, firstWitness := _ } = some { e with witnessCount := _, firstWitness := _ }
    cases hw : e.firstWitness <;> rfl
  | _ => rfl

theorem coverStage_ended (leg n : Nat) (ev : Evidence) (open_ : Option Episode) :
    (coverStage leg n ev open_).2.toList =
      if ev.coverage = .own then open_.toList.map (·.closeAt (n - 1)) else [] := by
  unfold coverStage
  cases ev.coverage with
  | own => cases open_ <;> rfl
  | _ => rfl

/-! ## The open leg (R136) -/

/-- A custody interval added into a leg, each sum stopping at 16,777,215 (R136; log 27). -/
theorem addToLeg_eq {coverage : Coverage} (hc : coverage ≠ .none) (figures : Option Figures) (own : Charges)
    (bridge : Option Charges) (l : Leg) :
    let plus (a b : Nat) : Nat := min 16777215 (a + b)
    addToLeg coverage figures own bridge l = { l with
      own := if coverage = .own then plus l.own 1 else l.own
      air := if coverage = .air then plus l.air 1 else l.air
      witness := if coverage = .witness then plus l.witness 1 else l.witness
      gap := if coverage = .gap then plus l.gap 1 else l.gap
      figures := match figures, l.figures with
        | some f, some g => some ⟨max g.hi f.hi, min g.lo f.lo⟩
        | some f, none => some f
        | none, old => old
      charges := match bridge with
        | some b => ⟨plus (plus l.charges.warm own.warm) b.warm, plus (plus l.charges.cold own.cold) b.cold⟩
        | none => ⟨plus l.charges.warm own.warm, plus l.charges.cold own.cold⟩ } := by
  intro plus
  have hcharges : addCharges (addCharges l.charges own) (bridge.getD ⟨0, 0⟩) = match bridge with
      | some b => ⟨plus (plus l.charges.warm own.warm) b.warm, plus (plus l.charges.cold own.cold) b.cold⟩
      | none => ⟨plus l.charges.warm own.warm, plus l.charges.cold own.cold⟩ := by
    cases bridge <;> simp [addCharges, satAdd, max24, plus]
  unfold addToLeg
  dsimp only
  rw [hcharges]
  cases coverage with
  | none => exact absurd rfl hc
  | _ => cases figures <;> cases l.figures <;> rfl

/-- Stage 1 settles one of OWN, AIR, WITNESS and GAP (R67). -/
theorem coverageOf_ne_none (acc : Accumulator) (s : State) : (coverageOf acc s).coverage ≠ .none := by
  have witness : (witnessEvidence acc.interval s).coverage ≠ .none := by
    unfold witnessEvidence
    split
    · split <;> simp [Evidence.gap]
    · simp [Evidence.gap]
  unfold coverageOf
  split
  · simp [Evidence.gap]
  · split
    · simp
    · split
      · split
        · simp
        · exact witness
      · exact witness

/-! ## The episodes ended and offered (R87, R125) -/

/-- Episodes that find room join the queue of a store at work, or HALTED, in their order (R125, R130). -/
theorem offerAll_of_room (es : List Episode) {s : State} (hw : s.es.criticalWaiting = false)
    (hs : s.es.state ≠ .idle ∨ s.sf.activity = .halted) (hq : s.es.queue.length + es.length ≤ 4) :
    offerAll (es.map QueueRecord.episode) s
      = { s with es := { s.es with queue := s.es.queue ++ es.map QueueRecord.episode } } := by
  induction es generalizing s with
  | nil => simp [offerAll]
  | cons e rest ih =>
    rw [List.length_cons] at hq
    have hrest := ih (s := { s with es := { s.es with queue := s.es.queue ++ [.episode e] } }) hw hs
      (by rw [List.length_append, List.length_singleton]; omega)
    rw [List.map_cons, offerAll, offer_of_room (r := .episode e) nofun hw (by omega), joinQueue_of_held _ hs, hrest]
    simp

/-- What joins the queue first leaves room and the store's state for what joins behind it. -/
theorem offerAll_then_offer_of_room (es : List Episode) (e : Episode) (cu : CustodyBlock) {s : State}
    (hw : s.es.criticalWaiting = false) (hs : s.es.state ≠ .idle ∨ s.sf.activity = .halted)
    (hq : s.es.queue.length + es.length + 1 ≤ 4) :
    (offer (.episode e) { offerAll (es.map QueueRecord.episode) s with cu }).es.queue
      = s.es.queue ++ (es ++ [e]).map QueueRecord.episode := by
  have joins {u : State} (hw : u.es.criticalWaiting = false) (hu : u.es.state ≠ .idle ∨ u.sf.activity = .halted)
      (hq : u.es.queue.length < 4) : (offer (.episode e) u).es.queue = u.es.queue ++ [.episode e] := by
    rw [offer_of_room (r := .episode e) nofun hw hq, joinQueue_of_held _ hu]
  rw [offerAll_of_room es hw hs (by omega), joins]
  · simp
  · exact hw
  · exact hs
  · simp only [List.length_append, List.length_map]
    omega

/-! ## The gap cause (R75, R80) -/

/-- A gap run is found only at the GAP close that passes the allowance (R75, R80; log 39). -/
theorem closeCharges_marked (p : Bool) {acc : Accumulator} {s : State} (hc : s.cu.custody.charges = true) :
    let run := if s.ie.gapRun < 255 then s.ie.gapRun + 1 else s.ie.gapRun
    (closeCharges p acc s).2.marked = true ↔
      (closeEvidence acc s).figures = none ∧ s.ie.mark = false ∧ run = s.profile.gapAllowance + 1 := by
  intro run
  cases hf : (closeEvidence acc s).figures with
  | some f =>
    have hmarked : (chargeCovered s.profile f (compared acc s)).2.marked = false := by
      cases hm : (compared acc s).mark with
      | true => rw [chargeCovered_of_mark s.profile f hm]
      | false =>
        rcases Nat.eq_zero_or_pos (compared acc s).gapRun with hr | hr
        · rw [chargeCovered_of_none s.profile f hm hr]
        · rw [chargeCovered_of_run s.profile f hm hr]
    rw [closeCharges_covered p hc hf]
    simp [hmarked]
  | none =>
    rw [closeCharges_gap p hc hf]
    show (chargeGap s.profile (compared acc s)).2.marked = true ↔ _
    rw [chargeGap_eq s.profile (compared acc s)]
    show decide (run = _ ∧ s.ie.mark = false) = true ↔ _
    rw [decide_eq_true_iff, and_comm (a := run = _)]
    simp

/-! ## Stage 8 (R3, R10 to R12) -/

section
variable {own : Charges} {found : Causes} {n : Nat} {s : State}

/-- No cause found: the state follows the interval's own charges, but for BROKEN (R10). -/
theorem custodyStage_of_none (hf : found.nonempty = false) (hs : s.cu.custody ≠ .broken) :
    custodyStage own found n s =
      { s with cu := { s.cu with custody := if own.warm = 0 ∧ own.cold = 0 then .chilled else .excursion } } := by
  simp [custodyStage, addCauses, hf, hs]

/-- A first cause: custody breaks, and the BREAK episode is offered (R11). -/
theorem custodyStage_of_break (hf : found.nonempty = true) (hc : s.cu.causes.nonempty = false) :
    custodyStage own found n s = offer (.episode (breakEpisode s.legNumber n found))
      { s with cu := { s.cu with causes := found, breakInterval := some n, custody := .broken } } := by
  simp [custodyStage, addCauses, hf, hc]

/-- In BROKEN the causes found join the set (R12). -/
theorem custodyStage_of_broken (hs : s.cu.custody = .broken) (hc : s.cu.causes.nonempty = true) :
    custodyStage own found n s = { s with cu := { s.cu with causes := s.cu.causes.union found } } := by
  cases hf : found.nonempty with
  | true => simp [custodyStage, addCauses, hf, hc, hs]
  | false =>
    have hunion : s.cu.causes.union found = s.cu.causes := by
      rw [Causes.empty_of_not_nonempty (a := found) (by simp [hf])]
      simp [Causes.union, Causes.empty]
    have hadd : addCauses found n s = s := by simp [addCauses, hf]
    rw [hunion, custodyStage, hadd, if_pos hs]

/-- Without a first cause stage 8 leaves the store (R10, R12). -/
theorem custodyStage_es (h : ¬ (s.cu.causes.nonempty = false ∧ found.nonempty = true)) :
    (custodyStage own found n s).es = s.es := by
  have hadd : (addCauses found n s).es = s.es := by
    unfold addCauses
    by_cases hf : found.nonempty = true
    · have hc : s.cu.causes.nonempty = true := by
        by_contra hc
        exact h ⟨by simpa using hc, hf⟩
      rw [if_pos hf, if_pos hc]
    · rw [if_neg hf]
  unfold custodyStage
  dsimp only
  split <;> exact hadd

end

/-- Settles O60: the places of stage 7 one by one, the offers, and stage 8 by the causes found. -/
theorem custodyCloseDecides : Obligations.CustodyCloseDecides := by
  intro partialClose acc s hcharges n t coverage figures found warm cold bridge run plus leg fresh ends excursion gap open_
    cover added ended brk s7 offered s8 breaks
  have hown : (closeCharges partialClose acc s).2.own = ⟨warm, cold⟩ := by
    rw [closeCharges_own, hcharges]
    simp only [warm, cold, figures]
    cases (closeEvidence acc s).figures <;> rfl
  have hbridge : (closeCharges partialClose acc s).2.bridge = bridge := by
    rw [closeCharges_bridge, hcharges]
    simp only [bridge, figures]
    cases (closeEvidence acc s).figures with
    | none => rfl
    | some f => exact if_congr (by simp) (congrArg some (bridgeCharges_eq _ _ _ _)) rfl
  have hes : (afterRecord partialClose acc s).es = s.es := by simp
  have hleg : (afterRecord partialClose acc s).legNumber = leg := by
    rw [legNumber_eq_match, hes] <;> rfl
  have hadded : addToLeg (closeEvidence acc s).coverage (closeEvidence acc s).figures ⟨warm, cold⟩ bridge = added :=
    funext fun l => addToLeg_eq (coverageOf_ne_none acc s) _ _ _ l
  have hepisodes : afterEpisodes partialClose acc s = offered := by
    have hi : isCustodyInterval partialClose acc s = true := by rw [isCustodyInterval, hcharges, Bool.true_or]
    unfold afterEpisodes episodeStage
    rw [if_pos hi, hleg, hes, hown, hbridge, hadded]
    dsimp only
    rw [excursionStage_open, gapStage_open, coverStage_open, excursionStage_ended, gapStage_ended,
      coverStage_ended]
    rfl
  have hs8 : s8 = custodyStage ⟨warm, cold⟩ found n offered := by
    show afterCustody partialClose acc s = _
    rw [afterCustody, if_pos hcharges, hown, hepisodes]
  have hcu : offered.cu = s.cu := by simp [offered, s7]
  have hofferedLeg : offered.legNumber = leg := by
    have hopen : offered.es.openLeg = s.es.openLeg.map added := by simp [offered, s7]
    rw [← hleg, State.legNumber, State.legNumber, hes, hopen, Option.map_map]
    rfl
  have hbreaks (h : breaks) : s8 = offer (.episode brk) { offered with
      cu := { s.cu with custody := .broken, causes := found, breakInterval := some n } } := by
    rw [hs8, custodyStage_of_break h.2 (by rw [hcu]; exact h.1), hofferedLeg, hcu]
    rfl
  have hquiet (h : ¬ breaks) : s8.es = offered.es := by
    rw [hs8]
    exact custodyStage_es (by rw [hcu]; exact h)
  have htcu : t.cu = s8.cu := closeInterval_cu _ _ _
  obtain ⟨hplaceX, hplaceG, hplaceC, hplaceL⟩ : t.es.openExcursion = s8.es.openExcursion ∧ t.es.openGap = s8.es.openGap
      ∧ t.es.openCover = s8.es.openCover ∧ t.es.openLeg = s8.es.openLeg := by
    simp only [t, closeInterval, handOn]
    split <;> simp [s8]
  obtain ⟨hplace8X, hplace8G, hplace8C, hplace8L⟩ : s8.es.openExcursion = excursion ∧ s8.es.openGap = gap
      ∧ s8.es.openCover = cover ∧ s8.es.openLeg = s.es.openLeg.map added := by
    by_cases h : breaks
    · rw [hbreaks h]
      simp [offered, s7]
    · rw [hquiet h]
      simp [offered, s7]
  obtain ⟨hexposure, _⟩ := closeInterval_charged partialClose acc s
  refine ⟨hplaceX.trans hplace8X, hplaceG.trans hplace8G, hplaceC.trans hplace8C, hplaceL.trans hplace8L, hquiet,
    fun h => congrArg State.es (hbreaks h), fun hw hs hq => ?queue, fun hs hc hf => ?_, fun hs hf => ?_, fun hs hc => ?_,
    ?peak, ?warmBudget, ?coldBudget, ?gapCause, rfl, rfl⟩
  case queue =>
    have hheld : s7.es.state ≠ .idle ∨ s7.sf.activity = .halted := by
      obtain ⟨_, hactivity, _⟩ := (afterRecord_notes partialClose acc s).supply
      exact hs.imp_right hactivity.trans
    have hoffered : offered = { s7 with es := { s7.es with
        queue := s.es.queue ++ ended.map QueueRecord.episode } } :=
      offerAll_of_room ended (s := s7) hw hheld (Nat.le_of_add_right_le hq)
    by_cases h : breaks
    · rw [if_pos h] at hq ⊢
      rw [hbreaks h]
      exact offerAll_then_offer_of_room ended brk _ (s := s7) hw hheld hq
    · rw [if_neg h, List.append_nil, hquiet h, hoffered]
  · have h : breaks := ⟨hc, hf⟩
    rw [htcu, hbreaks h]
    simp
  · rw [htcu, hs8, custodyStage_of_none hf (by rw [hcu]; exact hs), hcu]
  · rw [htcu, hs8, custodyStage_of_broken (by rw [hcu]; exact hs) (by rw [hcu]; exact hc), hcu]
  case peak =>
    show (match (closeEvidence acc s).figures with | some f => decide (s.profile.peak ≤ f.hi) | none => false) = true ↔ _
    simp only [figures]
    cases (closeEvidence acc s).figures <;> simp
  case warmBudget => rw [hexposure]; exact decide_eq_true_iff
  case coldBudget => rw [hexposure]; exact decide_eq_true_iff
  case gapCause => exact closeCharges_marked partialClose hcharges

end Sys2Proof.Machine
end

section
/-! SUPPORT. What every command keeps of the store's records (R123, R133, R142; log 37); with the settled statement beside
it. Everything but the end of a write and the taking of an ERASE changes the areas only by starting writes. -/

namespace Sys2Proof.Machine

/-- The store is writing the leg of a slot. -/
def State.Rewrites (s : State) (k : Nat) : Prop :=
  s.es.state = .writing ∧ ∃ l rest, s.es.queue = .leg l :: rest ∧ k = l.number - 1

/-- The second state's areas are the first's, but for the slots of the writes begun since (R123; log 37). -/
structure WritesAhead (s t : State) : Prop where
  profile : t.nv.profile = s.nv.profile
  certificate : t.nv.certificate = s.nv.certificate
  episodes : t.nv.episodes = s.nv.episodes
  eraseMarker : t.nv.eraseMarker = s.nv.eraseMarker
  legs : ∀ k, t.nv.legs[k]? = s.nv.legs[k]? ∨ t.Rewrites k
  begun : ∀ k, s.Rewrites k → t.Rewrites k

/-- What the statement says of the records over a command that is no erase. -/
structure RecordsKept (s t : State) : Prop where
  profile : s.nv.profile.isSome = true → t.nv.profile.isSome = true
  certificate : s.nv.certificate.isSome = true → t.nv.certificate.isSome = true
  episodes : ∀ k, k ≠ s.es.storedCount → t.nv.episodes[k]? = s.nv.episodes[k]?
  legs : ∀ k, t.nv.legs[k]? = s.nv.legs[k]? ∨ s.Rewrites k ∨ t.Rewrites k
  eraseMarker : s.nv.eraseMarker = true → t.nv.eraseMarker = true

theorem WritesAhead.kept_of_nv {s u t : State} (h : WritesAhead u t) (hnv : u.nv = s.nv) : RecordsKept s t := by
  refine ⟨?_, ?_, fun _ _ => ?_, fun k => ?_, ?_⟩
  · rw [h.profile, hnv]; exact id
  · rw [h.certificate, hnv]; exact id
  · rw [h.episodes, hnv]
  · rw [← hnv]; exact (h.legs k).imp_right .inr
  · rw [h.eraseMarker, hnv]; exact id

theorem WritesAhead.kept {s t : State} (h : WritesAhead s t) : RecordsKept s t := h.kept_of_nv rfl

theorem WritesAhead.trans {s t u : State} (h : WritesAhead s t) (g : WritesAhead t u) : WritesAhead s u where
  profile := g.profile.trans h.profile
  certificate := g.certificate.trans h.certificate
  episodes := g.episodes.trans h.episodes
  eraseMarker := g.eraseMarker.trans h.eraseMarker
  legs k := by
    rcases g.legs k with hk | hk
    · exact (h.legs k).imp hk.trans (g.begun k)
    · exact .inr hk
  begun k hk := g.begun k (h.begun k hk)

/-- An operation that leaves the areas and the write queue. -/
theorem WritesAhead.of_same {s t : State} (hnv : t.nv = s.nv) (hstate : t.es.state = s.es.state)
    (hqueue : t.es.queue = s.es.queue) : WritesAhead s t := by
  refine ⟨by rw [hnv], by rw [hnv], by rw [hnv], by rw [hnv], fun k => .inl (by rw [hnv]), fun k hk => ?_⟩
  rw [State.Rewrites, hstate, hqueue]
  exact hk

theorem WritesAhead.refl (s : State) : WritesAhead s s := .of_same rfl rfl rfl

theorem WritesAhead.of_es {s t : State} (hnv : t.nv = s.nv) (hes : t.es = s.es) : WritesAhead s t :=
  .of_same hnv (by rw [hes]) (by rw [hes])

theorem WritesAhead.after {s u t : State} (h : WritesAhead u t) (hnv : u.nv = s.nv) (hstate : u.es.state = s.es.state)
    (hqueue : u.es.queue = s.es.queue) : WritesAhead s t :=
  .trans (.of_same hnv hstate hqueue) h

/-- What follows a step that leaves the areas and the store is said of the state before it. -/
theorem RecordsKept.after {s u t : State} (h : RecordsKept u t) (hnv : u.nv = s.nv) (hes : u.es = s.es) :
    RecordsKept s t := by
  obtain ⟨hprofile, hcertificate, hepisodes, hlegs, hmarker⟩ := h
  unfold State.Rewrites at hlegs
  rw [hnv] at hprofile hcertificate hepisodes hlegs hmarker
  rw [hes] at hepisodes hlegs
  exact ⟨hprofile, hcertificate, hepisodes, hlegs, hmarker⟩

/-- A record written beside what the store does next. -/
theorem RecordsKept.then {s t u : State} (h : RecordsKept s t)
    (hprofile : t.nv.profile.isSome = true → u.nv.profile.isSome = true)
    (hcertificate : t.nv.certificate.isSome = true → u.nv.certificate.isSome = true)
    (hepisodes : u.nv.episodes = t.nv.episodes) (hlegs : u.nv.legs = t.nv.legs)
    (hmarker : u.nv.eraseMarker = t.nv.eraseMarker) (hstate : u.es.state = t.es.state)
    (hqueue : u.es.queue = t.es.queue) : RecordsKept s u := by
  refine ⟨fun hs => hprofile (h.profile hs), fun hs => hcertificate (h.certificate hs), ?_, fun k => ?_, ?_⟩
  · rw [hepisodes]; exact h.episodes
  · rw [hlegs, show u.Rewrites k ↔ t.Rewrites k by rw [State.Rewrites, State.Rewrites, hstate, hqueue]]
    exact h.legs k
  · rw [hmarker]; exact h.eraseMarker

/-! ## The write queue -/

/-- A queue taken up begins a write; an IDLE store was writing no leg (R127). -/
theorem writeHead_ahead (q : List QueueRecord) {s : State} (hi : s.es.state = .idle) :
    WritesAhead s (writeHead q s) := by
  obtain ⟨hprofile, hepisodes, hcertificate, hmarker⟩ := writeHead_nv q s
  refine ⟨hprofile, hcertificate, hepisodes, hmarker, (writeHead_legs q s).2, fun k hk => ?_⟩
  exact absurd (hi.symm.trans hk.1) (by decide)

theorem startWrites_ahead (s : State) : WritesAhead s (startWrites s) := by
  unfold startWrites
  split
  · rename_i h
    exact writeHead_ahead _ h.1
  · exact .refl s

/-- A record that joins as the last leaves the head that is being written (R125). -/
theorem joinQueue_ahead (r : QueueRecord) (s : State) : WritesAhead s (joinQueue r s) := by
  have joined : WritesAhead s { s with es := { s.es with queue := s.es.queue ++ [r] } } := by
    refine ⟨rfl, rfl, rfl, rfl, fun _ => .inl rfl, ?_⟩
    rintro k ⟨hw, l, rest, hq, hk⟩
    exact ⟨hw, l, rest ++ [r], by simp [hq], hk⟩
  exact joined.trans (startWrites_ahead _)

theorem admitCritical_ahead (s : State) : WritesAhead s (admitCritical s) := by
  have admitted : WritesAhead s { s with es := { s.es with criticalWaiting := false } } := .of_same rfl rfl rfl
  unfold admitCritical
  dsimp only
  split
  · split
    · exact admitted
    · split
      · exact admitted.trans (joinQueue_ahead ..)
      · exact .refl s
  · exact .refl s

theorem foldEpisode_ahead (e : Episode) (s : State) : WritesAhead s (foldEpisode e s) :=
  .of_same (by simp) (foldEpisode_queue e s).2 (foldEpisode_queue e s).1

theorem noteNow_ahead (code : FaultCode) (datum : List Byte) (s : State) : WritesAhead s (noteNow code datum s) :=
  .of_same rfl rfl rfl

theorem offer_ahead (r : QueueRecord) (s : State) : WritesAhead s (offer r s) := by
  refine (admitCritical_ahead s).trans ?_
  unfold offer
  dsimp only
  split
  · exact .refl _
  · split
    · exact joinQueue_ahead ..
    · cases r with
      | episode e => exact (noteNow_ahead ..).trans (foldEpisode_ahead e _)
      | _ => exact noteNow_ahead ..

theorem CloseReach.ahead {s t : State} (h : CloseReach s t) : WritesAhead s t := by
  induction h with
  | refl => exact .refl s
  | update _ hu ih => exact ih.trans (.of_same hu.nv hu.state hu.queue)
  | offered _ _ ih => exact ih.trans (offer_ahead ..)

/-! ## The reader commands -/

theorem takeHandover_ahead (who : Asker) (payload : List Byte) (busy : Bool) (s : State) :
    WritesAhead s (takeHandover who payload busy s) := by
  have answered (status : Status) (page : List Byte) (u : State) : WritesAhead u (answer who status page busy u) :=
    .of_es (by simp) (by simp)
  unfold takeHandover
  split
  · split
    · exact answered ..
    · split
      · refine .trans ?_ (answered ..)
        rcases judgeHandover_frame ‹Leg› (fieldAt payload 0 2) (fieldAt payload 2 2) (fieldAt payload 4 1) who.reader s
          with e | e <;> rw [e]
        · exact .refl s
        · unfold openNextLeg
          exact .after (offer_ahead ..) rfl rfl rfl
      · exact answered ..
  · split <;> exact answered ..

theorem acceptClose_ahead (who : Asker) (busy : Bool) (s : State) : WritesAhead s (acceptClose who busy s) :=
  have aborted : WritesAhead s (abortBurst busy s) := .of_es (by simp) (by simp)
  have entered (u : State) : WritesAhead u (enterClosing who busy u) :=
    .of_same (by simp) (by simp [enterClosing]) (by simp [enterClosing])
  aborted.trans ((runDeferred_reach _).ahead.trans ((partialCloseNow_reach _).ahead.trans (entered _)))

theorem dispatchCommand_records (kind : CommandKind) (who : Asker) (payload : List Byte) (busy : Bool) (s : State) :
    RecordsKept s (dispatchCommand kind who payload busy s) := by
  have same {u : State} (hnv : u.nv = s.nv) (hes : u.es = s.es) : RecordsKept s u := (WritesAhead.of_es hnv hes).kept
  cases kind with
  | commission =>
    show RecordsKept s (takeCommission who payload busy s)
    unfold takeCommission
    split
    · split
      · exact WritesAhead.kept (by unfold acceptCommission; exact .after (offer_ahead ..) rfl rfl rfl)
      · exact same (by simp) (by simp)
    · exact same (by simp) (by simp)
  | handover => exact (takeHandover_ahead ..).kept
  | query => exact same (u := takeQuery who _ _ busy s) (by simp) (by simp)
  | live => exact same (u := takeLive who busy s) (by simp) (by simp)
  | close =>
    simp only [dispatchCommand, takeClose]
    split
    · exact (acceptClose_ahead ..).kept
    · split <;> exact same (by simp) (by simp)
  | erase =>
    simp only [dispatchCommand, takeErase]
    split
    · exact ⟨id, id, fun _ _ => rfl, fun _ => .inl rfl, fun _ => rfl⟩
    · split <;> exact same (by simp) (by simp)

theorem receiveCommand_records (kind : CommandKind) (f : CommandFrame) (busy : Bool) (s : State) :
    RecordsKept s (receiveCommand kind f busy s) := by
  have same {u : State} (hnv : u.nv = s.nv) (hes : u.es = s.es) : RecordsKept s u := (WritesAhead.of_es hnv hes).kept
  unfold receiveCommand delivered
  split
  · unfold examineCommand
    dsimp only
    split
    · exact same rfl rfl
    · split
      · exact same (by simp) (by simp)
      · split
        · exact (dispatchCommand_records kind _ f.payload busy _).after rfl rfl
        · exact same (by simp) (by simp)
  · exact same rfl rfl

/-! ## The end of a write -/

/-- The next write begins over the areas as the end of the write before left them (R127, R130). -/
theorem nextWrite_records {s u : State} (hprofile : s.nv.profile.isSome = true → u.nv.profile.isSome = true)
    (hcertificate : u.nv.certificate = s.nv.certificate)
    (hepisodes : ∀ k, k ≠ s.es.storedCount → u.nv.episodes[k]? = s.nv.episodes[k]?)
    (hlegs : ∀ k, u.nv.legs[k]? = s.nv.legs[k]? ∨ s.Rewrites k) (hmarker : u.nv.eraseMarker = s.nv.eraseMarker) :
    RecordsKept s (nextWrite u) := by
  have legs (k : Nat) : (nextWrite u).nv.legs[k]? = u.nv.legs[k]? ∨ (nextWrite u).Rewrites k := by
    unfold nextWrite
    split
    · exact (writeHead_legs ..).2 k
    · exact .inl rfl
  refine ⟨by simpa using hprofile, by simp [hcertificate], by simpa using hepisodes, fun k => ?_, by simp [hmarker]⟩
  rcases legs k with hk | hk
  · rcases hlegs k with hl | hl
    · exact .inl (hk.trans hl)
    · exact .inr (.inl hl)
  · exact .inr (.inr hk)

/-- The end of a write leaves every record but the one whose slot it is (R128, R133, R138, R141). -/
theorem recordEnds_records (ok busy : Bool) (r : QueueRecord) (rest : List QueueRecord) {s : State}
    (hw : s.es.state = .writing) (hq : s.es.queue = r :: rest) : RecordsKept s (recordEnds ok busy r s) := by
  have noted : ∃ u, u = (if ok then s else noteNow .storeFail r.datum s) ∧ u.nv = s.nv
      ∧ u.es.storedCount = s.es.storedCount := by
    refine ⟨_, rfl, ?_⟩
    cases ok <;> exact ⟨rfl, rfl⟩
  obtain ⟨u, hu, hnv, hstored⟩ := noted
  have plain {v : State} (hv : v.nv = s.nv) : RecordsKept s (nextWrite v) :=
    nextWrite_records (by simp [hv]) (by rw [hv]) (fun _ _ => by rw [hv]) (fun _ => .inl (by rw [hv])) (by rw [hv])
  unfold recordEnds
  simp only [← hu]
  cases r with
  | profile p =>
    dsimp only
    split
    · exact (plain hnv).then (by simp [profileWritten]) (by simp [profileWritten]) (by simp [profileWritten])
        (by simp [profileWritten]) (by simp [profileWritten]) (by simp [profileWritten, enterPrecool])
        (by simp [profileWritten, enterPrecool])
    · exact (plain hnv).then (by simp) (by simp) (by simp) (by simp) (by simp) (by simp [profileFailed])
        (by simp [profileFailed])
  | episode e =>
    dsimp only
    split
    · refine nextWrite_records (u := episodeStored e u) (by simp [episodeStored, hnv]) (by simp [episodeStored, hnv])
        (fun k hk => ?_) (fun k => .inl (by simp [episodeStored, hnv])) (by simp [episodeStored, hnv])
      simp [episodeStored, hnv, hstored, Ne.symm hk]
    · exact plain (by simp [hnv])
  | leg l =>
    refine nextWrite_records (u := legEnds ok l u) (by simp [legEnds, hnv]) (by simp [legEnds, hnv])
      (fun _ _ => by simp [legEnds, hnv]) (fun k => ?_) (by simp [legEnds, hnv])
    by_cases hk : k = l.number - 1
    · exact .inr ⟨hw, l, rest, hq, hk⟩
    · exact .inl (by simp [legEnds, hnv, Ne.symm hk])
  | checkpoint c =>
    exact nextWrite_records (u := checkpointEnds ok c u) (by simp [checkpointEnds, hnv]) (by simp [checkpointEnds, hnv])
      (fun _ _ => by simp [checkpointEnds, hnv]) (fun _ => .inl (by simp [checkpointEnds, hnv]))
      (by simp [checkpointEnds, hnv])
  | certificate c =>
    refine (plain hnv).then ?_ ?_ ?_ ?_ ?_ ?_ ?_ <;> cases ok <;> simp [certificateEnds]

/-! ## The supply -/

theorem riseToLow_ahead (s : State) : WritesAhead s (riseToLow s) := by
  have hlow : WritesAhead s (setSupply .low s) := .of_es (by simp) (by simp)
  have resumed (u : State) : WritesAhead u (clearCompare (clearRise u)) := .of_same rfl rfl rfl
  unfold riseToLow
  dsimp only
  split
  · exact hlow.trans (.after ((startWrites_ahead _).trans (resumed _)) rfl rfl rfl)
  · exact hlow

theorem offerCritical_ahead (s : State) : WritesAhead s (offerCritical s) := by
  unfold offerCritical
  split
  · exact .after (admitCritical_ahead _) rfl rfl rfl
  · exact .refl s

theorem fallToCritical_ahead (busy : Bool) (s : State) : WritesAhead s (fallToCritical busy s) := by
  have hcritical : WritesAhead s (setSupply .critical s) := .of_es (by simp) (by simp)
  have aborted (u : State) : WritesAhead u (abortBurst busy u) := .of_es (by simp) (by simp)
  unfold fallToCritical
  dsimp only
  split
  · exact hcritical
  · unfold enterHaltPending
    dsimp only
    exact hcritical.trans (.after (.trans ((aborted _).trans (runDeferred_reach _).ahead)
      (.after (offerCritical_ahead _) rfl rfl rfl)) rfl rfl rfl)

theorem supplyFallsCritical_ahead (busy : Bool) (s : State) : WritesAhead s (supplyFallsCritical busy s) := by
  unfold supplyFallsCritical
  split
  · exact .after (fallToCritical_ahead ..) (by simp) (by simp) (by simp)
  · exact fallToCritical_ahead ..
  · exact .refl s

theorem supplyRisesGood_ahead (s : State) : WritesAhead s (supplyRisesGood s) := by
  have hgood (u : State) : WritesAhead u (setSupply .good u) := .of_es (by simp) (by simp)
  unfold supplyRisesGood
  split
  · exact .refl s
  · exact hgood s
  · exact (riseToLow_ahead s).trans (hgood _)

theorem halts_ahead (s : State) : WritesAhead s (halts s) := by
  unfold halts
  split
  · split <;> exact .of_same rfl rfl rfl
  · exact .refl s

/-! ## Every command -/

theorem completeBurst_ahead (busy : Bool) (f : Flight) (codes : List Nat) (s : State) :
    WritesAhead s (completeBurst busy f codes s) := by
  have detected (r : BurstResult) (u : State) : WritesAhead u (riseDetect busy r u) := .of_es (by simp) (by simp)
  have answered (r : BurstResult) (u : State) : WritesAhead u (answerLive busy r u) := .of_es (by simp) (by simp)
  have started (u : State) : WritesAhead u (startBurst u) := .of_es (by simp) (by simp)
  have credited (r : BurstResult) (u : State) :
      WritesAhead u (if r.credit then riseDetect busy r (deliverToExposure r u) else u) := by
    split
    · exact (deliverToExposure_reach r u).ahead.trans (detected ..)
    · exact .refl u
  have delivered (r : BurstResult) (u : State) : WritesAhead u (deliver busy r u) := by
    unfold deliver
    dsimp only
    split
    · exact (credited r u).trans (answered ..)
    · exact credited r u
  unfold completeBurst
  dsimp only
  exact .after ((delivered _ _).trans (.after (started _) rfl rfl rfl)) (by simp) (by simp) (by simp)

theorem conversionEnds_ahead (code : Code) (busy : Bool) (s : State) : WritesAhead s (conversionEnds code busy s) := by
  unfold conversionEnds
  split
  · dsimp only
    split
    · exact .of_same rfl rfl rfl
    · exact completeBurst_ahead ..
  all_goals exact .refl s

theorem boundary_ahead (s : State) : WritesAhead s (boundary s) := by
  have steps : WritesAhead s (boundarySteps s) := .of_es (by simp) (by simp)
  unfold boundary
  split
  · exact steps
  · exact steps.trans (boundaryToExposure_reach _).ahead

theorem handOverClosing_ahead (s : State) : WritesAhead s (handOverClosing s) := by
  unfold handOverClosing
  split
  · split
    · exact .refl s
    · dsimp only
      split <;> exact .after (offer_ahead ..) rfl rfl rfl
  · exact .refl s

theorem writeEnds_records (v b busy : Bool) (s : State) : RecordsKept s (writeEnds v b busy s) := by
  unfold writeEnds
  split
  · split
    · exact recordEnds_records _ _ _ _ ‹_› ‹_›
    · exact (WritesAhead.refl s).kept
  · exact (WritesAhead.refl s).kept

/-- A power-on that finishes no erase reads the store, and starts a write at most (R175, R178). -/
theorem powerOn_records (mv : Nat) {s : State} (hm : s.nv.eraseMarker = false) :
    RecordsKept s (examineStore (poweredAt mv s)) := by
  have read {u : State} (hnv : u.nv = s.nv) : RecordsKept s u := (WritesAhead.refl u).kept_of_nv hnv
  unfold examineStore
  split
  · rename_i h
    exact absurd (h.symm.trans hm) (by decide)
  · split
    · exact read rfl
    · split
      · exact read rfl
      · refine (startWrites_ahead _).kept_of_nv ?_
        split <;> rfl

/-- Every command but the completion of an erase and a power-on that finishes one (R123, R133, R142). -/
theorem exec_records {i : Instr} {s : State} (he : ¬ (s.cu.custody = .erasing ∧ ∃ b, i = .eraseComplete b))
    (hm : ¬ (s.nv.eraseMarker = true ∧ ∃ mv, i = .powerOn mv)) : RecordsKept s (afterExec i s) := by
  have same {u : State} (hnv : u.nv = s.nv) (hes : u.es = s.es) : RecordsKept s u := (WritesAhead.of_es hnv hes).kept
  by_cases hl : i = .retentionLoss
  · subst hl
    show RecordsKept s (if s.powered then withoutPower s else s)
    split <;> exact (WritesAhead.refl _).kept_of_nv rfl
  by_cases hp : ∃ mv, i = .powerOn mv
  · obtain ⟨mv, rfl⟩ := hp
    exact powerOn_records mv (by
      cases h : s.nv.eraseMarker with
      | false => rfl
      | true => exact absurd ⟨h, mv, rfl⟩ hm)
  apply exec_ind_powered (RecordsKept s) (same rfl rfl) (hl := hl) (hp := fun mv h => hp ⟨mv, h⟩)
  case command => exact fun kind f busy => receiveCommand_records kind f busy s
  case conversion => exact fun code busy => (conversionEnds_ahead code busy s).kept
  case atBoundary => exact (boundary_ahead s).kept
  case write => exact fun v b busy => writeEnds_records v b busy s
  case handOver => exact (handOverClosing_ahead s).kept
  case admitted => exact (admitCritical_ahead s).kept
  case rises => exact (supplyRisesGood_ahead s).kept
  case critical => exact fun busy => (supplyFallsCritical_ahead busy s).kept
  case ready => exact (halts_ahead s).kept
  case recovers =>
    unfold supplyRecovers
    split
    · exact (riseToLow_ahead s).kept
    · exact same rfl rfl
  case low =>
    unfold supplyFallsLow
    split <;> exact same (by simp) (by simp)
  case erased =>
    intro busy hi
    have hn : s.cu.custody ≠ .erasing := fun h => he ⟨h, busy, hi⟩
    rw [eraseCompletes, if_neg hn]
    exact same rfl rfl
  all_goals intros; exact same (by simp) (by simp)

/-- Settles O14: most commands write nothing but what they start to write; the end of a write has its own slot. -/
theorem storedRecordsEndOnlyByErase : Obligations.StoredRecordsEndOnlyByErase := by
  intro i s t h rewrites
  by_cases he : s.cu.custody = .erasing ∧ ∃ b, i = .eraseComplete b
  · exact .inl he
  by_cases hm : s.nv.eraseMarker = true ∧ ∃ mv, i = .powerOn mv
  · exact .inr (.inl hm)
  have kept : RecordsKept s t := eq_afterExec h ▸ exec_records he hm
  exact .inr (.inr ⟨kept.profile, kept.certificate, kept.episodes, kept.legs, kept.eraseMarker⟩)

end Sys2Proof.Machine
end

section
/-! SUPPORT. A sound state in service without an accumulator: no clause of the soundness ties the ring of such a state to
the interval number, and the accumulator that the next boundary opens can lie below it (R63, R83). -/

namespace Sys2Proof.Machine

/-- A closed interval of number 5, GAP. -/
def recordOfFive : IntervalRecord :=
  ⟨5, .gap, none, 0, 0, Sources.empty, none, false, ⟨0, 0⟩, none, .steady, false, false⟩

/-- PRECOOL at interval 0 with an open leg, no accumulator, and interval 5 in the ring; an interval boundary comes next. -/
def ringAhead : State :=
  { State.reset with
    cu := { CustodyBlock.blank with custody := .precool }
    es := { StoreBlock.blank with openLeg := some ⟨1, 0, 0, 0, none, none, ⟨0, 0⟩, 0, 0, 0, 0, 0⟩ }
    ie := { ExposureBlock.blank with history := [recordOfFive] }
    pending := [.intervalBoundary] }

theorem ringAhead_schedule : ringAhead.ScheduleSound := by
  have h := resetIsSound.schedule
  exact ⟨h.mode, h.buffer, h.period, h.interval, h.phase, h.quarter, h.compare, h.offset⟩

theorem ringAhead_custody : ringAhead.CustodySound := by
  constructor <;> simp [ringAhead, CustodyBlock.blank, StoreBlock.blank, ExposureBlock.blank, Custody.inService]

theorem ringAhead_exposure : ringAhead.ExposureSound := by
  constructor <;> simp [ringAhead, ExposureBlock.blank]

/-- The boundary opens the accumulator of interval 1, and leaves interval 5 in the ring. -/
theorem ringAhead_step : ∃ t, step ringAhead = .next t ∧ t.ie.cur = some (Accumulator.empty 1)
    ∧ t.ie.history = [recordOfFive] :=
  ⟨_, rfl, rfl, rfl⟩

/-- Refutes O12: nothing in the soundness of a state in service says that it has a current accumulator, so nothing
bounds its ring by the interval number; a boundary then opens an accumulator below a record of the ring. -/
theorem not_stepKeepsExposure : ¬ Obligations.StepKeepsExposure := by
  intro h
  obtain ⟨t, hstep, hcur, hhistory⟩ := ringAhead_step
  have kept := h ringAhead t ringAhead_schedule ringAhead_custody ringAhead_exposure hstep
  have below := (kept.current _ hcur).2 recordOfFive (by rw [hhistory]; exact List.mem_singleton_self _)
  exact absurd below (by decide)

end Sys2Proof.Machine
end

section
/-! SUPPORT. The converter's triggers, its LIVE records and the deferred close through every command (R23, R65, R114, R171);
with the settled statement beside them. -/

namespace Sys2Proof.Machine

/-- What the converter's soundness says of the triggers and of the LIVE records (R23, R114). -/
structure State.LivesSound (s : State) : Prop where
  idle : s.mc.burst = .idle → s.mc.triggers = Sources.empty
  inFlight : s.lc.liveInFlight.isSome = s.mc.servesSpot
  waiting : s.lc.liveWaiting.isSome = s.mc.triggers.spot

/-- A close waits only for a credited burst of its own interval (R65). -/
def State.DefersSoundly (s : State) : Prop :=
  ∀ acc, s.ie.old = some acc → ∃ f, s.mc.burst.flight = some f ∧ f.credit = true ∧ f.start.interval = acc.interval

theorem State.DefersSoundly.none_of_idle {s : State} (h : s.DefersSoundly) (hb : s.mc.burst = .idle) : s.ie.old = none := by
  by_contra hne
  obtain ⟨acc, hacc⟩ := Option.ne_none_iff_exists'.mp hne
  obtain ⟨f, hf, _⟩ := h acc hacc
  simp [hb, Burst.flight] at hf

/-- The part is RUNNING and no halt is pending (R171). -/
def State.Working (s : State) : Prop := s.sf.activity = .running ∧ s.sf.haltPending = false

theorem converterSound_iff {s : State} :
    s.ConverterSound ↔ s.LivesSound ∧ (s.mc.burst = .idle ∨ s.Working) ∧ s.DefersSoundly := by
  have halted : s.sf.activity = .halted ∨ s.sf.haltPending = true ↔ ¬ s.Working := by
    unfold State.Working
    cases s.sf.activity <;> cases s.sf.haltPending <;> simp
  constructor
  · rintro ⟨idle, quiet, inFlight, waiting, deferred⟩
    refine ⟨⟨idle, inFlight, waiting⟩, ?_, deferred⟩
    by_cases hw : s.Working
    · exact .inr hw
    · exact .inl (quiet (halted.mpr hw))
  · rintro ⟨⟨idle, inFlight, waiting⟩, quiet, deferred⟩
    exact ⟨idle, fun h => quiet.resolve_right (halted.mp h), inFlight, waiting, deferred⟩

theorem State.LivesSound.of_eq {s t : State} (h : s.LivesSound) (hmc : t.mc = s.mc)
    (hlive : t.lc.liveInFlight = s.lc.liveInFlight ∧ t.lc.liveWaiting = s.lc.liveWaiting) : t.LivesSound := by
  obtain ⟨idle, inFlight, waiting⟩ := h
  constructor <;> simp only [hmc, hlive.1, hlive.2] <;> assumption

theorem State.Working.of_supply {s t : State} (h : s.Working)
    (hsf : t.sf.supply = s.sf.supply ∧ t.sf.activity = s.sf.activity ∧ t.sf.haltPending = s.sf.haltPending) :
    t.Working := ⟨hsf.2.1.trans h.1, hsf.2.2.trans h.2⟩

/-- An operation that leaves the converter, the LIVE records and the deferred close, and no more than notes. -/
theorem State.ConverterSound.of_eq {s t : State} (h : s.ConverterSound) (hmc : t.mc = s.mc)
    (hlive : t.lc.liveInFlight = s.lc.liveInFlight ∧ t.lc.liveWaiting = s.lc.liveWaiting) (hold : t.ie.old = s.ie.old)
    (hsf : t.sf.activity = s.sf.activity ∧ t.sf.haltPending = s.sf.haltPending) : t.ConverterSound := by
  obtain ⟨lives, quiet, deferred⟩ := converterSound_iff.mp h
  refine converterSound_iff.mpr ⟨lives.of_eq hmc hlive, ?_, ?_⟩
  · rw [hmc, State.Working, hsf.1, hsf.2]
    exact quiet
  · rw [State.DefersSoundly, hold, hmc]
    exact deferred

/-- The burst in flight goes on to its next stage (R25). -/
theorem State.ConverterSound.ofStage {f : Flight} {s t : State} (h : s.ConverterSound) (hs : s.mc.burst.flight = some f)
    (hb : t.mc.burst.flight = some f) (ht : t.mc.triggers = s.mc.triggers) (hlc : t.lc = s.lc) (hie : t.ie = s.ie)
    (hsf : t.sf = s.sf) : t.ConverterSound := by
  obtain ⟨lives, quiet, deferred⟩ := converterSound_iff.mp h
  have ne {b : Burst} (hb : b.flight = some f) : b ≠ .idle := fun hi => by simp [hi, Burst.flight] at hb
  refine converterSound_iff.mpr ⟨⟨fun hi => absurd hi (ne hb), ?_, ?_⟩, .inr ?_, ?_⟩
  · rw [hlc, lives.inFlight, ConverterBlock.servesSpot, ConverterBlock.servesSpot, hs, hb]
  · rw [hlc, lives.waiting, ht]
  · rw [State.Working, hsf]
    exact quiet.resolve_left (ne hs)
  · rw [State.DefersSoundly, hie, hb, ← hs]
    exact deferred

/-- A part without a burst, a LIVE record or a deferred close. -/
theorem converterSound_of_none {s : State} (hb : s.mc.burst = .idle) (ht : s.mc.triggers = Sources.empty)
    (hv : s.lc.liveInFlight = none) (hw : s.lc.liveWaiting = none) (ho : s.ie.old = none) : s.ConverterSound :=
  converterSound_iff.mpr ⟨⟨fun _ => ht, by simp [hv, ConverterBlock.servesSpot, hb, Burst.flight],
    by simp [hw, ht, Sources.empty]⟩, .inl hb, fun acc h => by simp [ho] at h⟩

/-! ## Triggers (R23, R24) -/

theorem Sources.eq_empty {a : Sources} (h : a.nonempty = false) : a = Sources.empty := by
  cases a
  simp_all [Sources.nonempty, Sources.empty]

/-- A burst starts where the LIVE records are those of the triggers that pend: the waiting record, or the one already
taken for a burst of its own (R24, R114). -/
theorem startBurst_sound {s : State} (hw : s.Working) (hb : s.mc.burst = .idle) (ho : s.ie.old = none)
    (hlive : (s.lc.liveInFlight.isSome || s.lc.liveWaiting.isSome) = s.mc.triggers.spot) :
    (startBurst s).ConverterSound := by
  cases ht : s.mc.triggers.nonempty with
  | false =>
    have hempty := Sources.eq_empty ht
    rw [startBurst, if_neg (by simp [ht])]
    simp only [hempty, Sources.empty, Bool.or_eq_false_iff, Option.isSome_eq_false_iff, Option.isNone_iff_eq_none] at hlive
    exact converterSound_of_none hb hempty hlive.1 hlive.2 ho
  | true =>
    rw [startBurst, if_pos ⟨hb, ht⟩]
    refine converterSound_iff.mpr ⟨⟨fun h => by simp at h, ?_, ?_⟩, .inr hw, fun acc h => by simp [ho] at h⟩
    · show (if _ then _ else _ : LinkBlock).liveInFlight.isSome = s.mc.triggers.spot
      rw [← hlive]
      cases hv : s.lc.liveWaiting <;> cases hs : s.mc.triggers.spot <;> simp_all
    · show (if _ then _ else _ : LinkBlock).liveWaiting.isSome = false
      cases hv : s.lc.liveWaiting <;> cases hs : s.mc.triggers.spot <;> simp_all

/-- A trigger that brings no LIVE record of its own (R23). -/
theorem trigger_converter {src : Source} (hsrc : src ≠ .spot) {s : State} (h : s.ConverterSound) :
    (trigger src s).ConverterSound := by
  have hspot : (s.mc.triggers.union src.only).spot = s.mc.triggers.spot := by
    cases src <;> simp_all [Sources.union, Source.only]
  obtain ⟨lives, quiet, deferred⟩ := converterSound_iff.mp h
  cases hd : s.discardsTriggers with
  | true => rwa [trigger, if_pos hd]
  | false =>
    by_cases hb : s.mc.burst = .idle
    · have hold := deferred.none_of_idle hb
      have hnone : s.lc.liveInFlight.isSome = false := by
        rw [lives.inFlight, ConverterBlock.servesSpot, hb]
        rfl
      rw [trigger, if_neg (by simp [hd])]
      refine startBurst_sound (discardsTriggers_eq_false.mp hd) hb hold ?_
      show (_ || _) = (s.mc.triggers.union src.only).spot
      rw [hspot, ← lives.waiting, hnone, Bool.false_or]
    · rw [trigger_of_burst src hd hb]
      exact converterSound_iff.mpr ⟨⟨fun hi => absurd hi hb, lives.inFlight, lives.waiting.trans hspot.symm⟩, quiet, deferred⟩

/-! ## The reader commands -/

theorem answer_converter (who : Asker) (status : Status) (payload : List Byte) (busy : Bool) {s : State}
    (h : s.ConverterSound) : (answer who status payload busy s).ConverterSound :=
  h.of_eq (by simp) (by simp) (by simp) (answer_notes ..).supply.2

/-- A LIVE becomes the in-flight record with the SPOT burst that it starts, or the waiting one with the SPOT that pends
(R114). -/
theorem takeLive_converter (who : Asker) (busy : Bool) {s : State} (hw : s.Working) (h : s.ConverterSound) :
    (takeLive who busy s).ConverterSound := by
  obtain ⟨lives, quiet, deferred⟩ := converterSound_iff.mp h
  unfold takeLive
  split
  · exact answer_converter _ _ _ _ h
  · have hrecorded : (recordLive who s).Working := hw.of_supply (recordLive_notes who s).supply
    have hd := discardsTriggers_eq_false.mpr hrecorded
    by_cases hb : s.mc.burst = .idle
    · have hold := deferred.none_of_idle hb
      rw [trigger, if_neg (by simp [hd]), recordLive_of_idle who hb]
      exact startBurst_sound hw hb hold (by simp [Sources.union, Source.only])
    · rw [trigger_of_burst .spot hd (by simpa using hb)]
      have hflight : (recordLive who s).lc.liveInFlight = s.lc.liveInFlight := by
        simp only [recordLive, if_neg hb]
        split <;> simp
      have hwaiting : (recordLive who s).lc.liveWaiting = some who := by simp [recordLive, hb]
      have hmc : (recordLive who s).mc = s.mc := by simp
      refine converterSound_iff.mpr ⟨⟨fun hi => absurd (by simpa [hmc] using hi) hb, ?_, ?_⟩, .inr hrecorded, ?_⟩
      · show (recordLive who s).lc.liveInFlight.isSome = ConverterBlock.servesSpot _
        rw [hflight, lives.inFlight, hmc]
        rfl
      · show (recordLive who s).lc.liveWaiting.isSome = _
        simp [hwaiting, Sources.union, Source.only]
      · simpa [State.DefersSoundly, hmc] using deferred

/-! ## Closes and aborts (R30, R65) -/

theorem runDeferred_live (s : State) :
    (runDeferred s).lc.liveInFlight = s.lc.liveInFlight ∧ (runDeferred s).lc.liveWaiting = s.lc.liveWaiting := by
  unfold runDeferred
  split
  · exact closeInterval_live ..
  · exact ⟨rfl, rfl⟩

/-- No close waits any longer once the deferred one has run (R65). -/
theorem runDeferred_converter {s : State} (lives : s.LivesSound) (quiet : s.mc.burst = .idle ∨ s.Working) :
    (runDeferred s).ConverterSound := by
  refine converterSound_iff.mpr ⟨lives.of_eq (by simp) (runDeferred_live s), ?_, fun acc h => ?_⟩
  · exact quiet.imp (by simp) fun h => h.of_supply (runDeferred_notes s).supply
  · simp [runDeferred_old] at h

theorem partialCloseNow_converter {s : State} (h : s.ConverterSound) : (partialCloseNow s).ConverterSound := by
  unfold partialCloseNow
  split
  · obtain ⟨hold, _⟩ := closeInterval_ie true ‹Accumulator› s
    exact h.of_eq (by simp) (closeInterval_live ..) hold (closeInterval_notes ..).supply.2
  · exact h

/-- An abort leaves no burst, no trigger and no LIVE record (R30, R114). -/
theorem abortBurst_idle (busy : Bool) {s : State} (h : s.LivesSound) :
    (abortBurst busy s).mc.burst = .idle ∧ (abortBurst busy s).LivesSound := by
  have hmc := abortBurst_converter busy h.idle
  obtain ⟨hflight, hwaiting⟩ := abortBurst_live busy h.idle h.inFlight h.waiting
  refine ⟨by rw [hmc], fun _ => by rw [hmc], ?_, ?_⟩
  · rw [hflight, hmc]
    rfl
  · rw [hwaiting, hmc]
    rfl

/-- A boundary's close runs at once, or waits for the credited burst of its interval (R65). -/
theorem boundaryToExposure_converter {s : State} (h : s.ConverterSound) : (boundaryToExposure s).ConverterSound := by
  obtain ⟨lives, quiet, _⟩ := converterSound_iff.mp h
  unfold boundaryToExposure
  split
  · have h0 := runDeferred_converter lives quiet
    generalize runDeferred s = u at h0
    obtain ⟨lives0, quiet0, _⟩ := converterSound_iff.mp h0
    dsimp only
    split
    · rename_i acc hacc
      split
      · rename_i hcredited
        refine converterSound_iff.mpr ⟨lives0.of_eq rfl ⟨rfl, rfl⟩, quiet0, fun acc' hacc' => ?_⟩
        obtain rfl := Option.some.inj (hacc.symm.trans hacc')
        unfold State.creditedInFlight at hcredited
        cases hb : u.mc.burst with
        | idle => simp [hb] at hcredited
        | settling f => exact ⟨f, by simp [Burst.flight], by simpa [hb] using hcredited⟩
        | converting f codes => exact ⟨f, by simp [Burst.flight], by simpa [hb] using hcredited⟩
      · exact runDeferred_converter (lives0.of_eq rfl ⟨rfl, rfl⟩) quiet0
    · rename_i hnone
      exact converterSound_iff.mpr ⟨lives0.of_eq rfl ⟨rfl, rfl⟩, quiet0, fun acc hacc => by
        exact absurd (hnone.symm.trans hacc) (by simp)⟩
  · exact h

theorem acceptClose_converter (who : Asker) (busy : Bool) {s : State} (h : s.ConverterSound) :
    (acceptClose who busy s).ConverterSound := by
  obtain ⟨hidle, lives⟩ := abortBurst_idle busy (converterSound_iff.mp h).1
  have closed := partialCloseNow_converter (runDeferred_converter lives (.inl hidle))
  exact closed.of_eq (t := enterClosing who busy _) (by simp) (enterClosing_live ..) (by simp)
    (enterClosing_notes ..).supply.2

theorem takeHandover_converter (who : Asker) (payload : List Byte) (busy : Bool) {s : State} (h : s.ConverterSound) :
    (takeHandover who payload busy s).ConverterSound := by
  unfold takeHandover
  split
  · split
    · exact answer_converter _ _ _ _ h
    · split
      · refine answer_converter _ _ _ _ ?_
        rcases judgeHandover_frame ‹Leg› (fieldAt payload 0 2) (fieldAt payload 2 2) (fieldAt payload 4 1) who.reader s
          with e | e <;> rw [e]
        · exact h
        · unfold openNextLeg
          exact h.of_eq (by simp) (by simp) (by simp) (offer_notes ..).supply.2
      · exact answer_converter _ _ _ _ h
  · split <;> exact answer_converter _ _ _ _ h

theorem takeQuery_live (who : Asker) (page index : Nat) (busy : Bool) (s : State) :
    (takeQuery who page index busy s).lc.liveInFlight = s.lc.liveInFlight
      ∧ (takeQuery who page index busy s).lc.liveWaiting = s.lc.liveWaiting := by
  have indexed (page : Nat) (payload : Option (List Byte)) :
      (answerIndexed who page payload busy s).lc.liveInFlight = s.lc.liveInFlight
        ∧ (answerIndexed who page payload busy s).lc.liveWaiting = s.lc.liveWaiting := by
    unfold answerIndexed answerPage
    split <;> simp
  have custody {u : State} (hu : u.lc.liveInFlight = s.lc.liveInFlight ∧ u.lc.liveWaiting = s.lc.liveWaiting) :
      (inCustody who busy s u).lc.liveInFlight = s.lc.liveInFlight
        ∧ (inCustody who busy s u).lc.liveWaiting = s.lc.liveWaiting := by
    unfold inCustody
    split
    · simp
    · exact hu
  unfold takeQuery
  split
  case h_3 => simp [answerPage]
  case h_10 => simp [answerFaults, answerPage, clearFaultDetail]
  case h_12 => simp
  case h_9 | h_11 => exact indexed ..
  case h_1 | h_2 | h_7 => exact custody (by simp [answerPage])
  all_goals exact custody (indexed ..)

theorem dispatchCommand_converter (kind : CommandKind) (who : Asker) (payload : List Byte) (busy : Bool) {s : State}
    (hw : s.Working) (h : s.ConverterSound) : (dispatchCommand kind who payload busy s).ConverterSound := by
  have answered (status : Status) (page : List Byte) : (answer who status page busy s).ConverterSound :=
    answer_converter who status page busy h
  cases kind with
  | commission =>
    show (takeCommission who payload busy s).ConverterSound
    unfold takeCommission
    split
    · split
      · unfold acceptCommission
        exact h.of_eq (by simp) (by simp) (by simp) (offer_notes ..).supply.2
      · exact answered ..
    · exact answered ..
  | handover => exact takeHandover_converter _ _ _ h
  | query => exact h.of_eq (t := takeQuery who _ _ busy s) (by simp) (takeQuery_live ..) (by simp) (takeQuery_supply ..).2
  | live => exact takeLive_converter _ _ hw h
  | close =>
    simp only [dispatchCommand, takeClose]
    split
    · exact acceptClose_converter _ _ h
    · split
      · exact h.of_eq (by simp) (by simp [answerPage]) (by simp) (answerPage_notes ..).supply.2
      · exact answered ..
  | erase =>
    simp only [dispatchCommand, takeErase]
    split
    · exact h.of_eq rfl ⟨rfl, rfl⟩ rfl ⟨rfl, rfl⟩
    · split <;> exact answered ..

theorem receiveCommand_converter (kind : CommandKind) (f : CommandFrame) (busy : Bool) {s : State} (hr : s.RadioSound)
    (h : s.ConverterSound) : (receiveCommand kind f busy s).ConverterSound := by
  have counted (g : LinkCounters → LinkCounters) : (counting g (countGood s)).ConverterSound :=
    h.of_eq rfl ⟨rfl, rfl⟩ rfl ⟨rfl, rfl⟩
  unfold receiveCommand delivered
  split
  · rename_i hh
    unfold examineCommand
    dsimp only
    split
    · exact counted _
    · split
      · exact answer_converter _ _ _ _ (counted _)
      · split
        · exact dispatchCommand_converter _ _ _ _ ⟨hr.running_of_hears hh, hr.notPending_of_hears hh⟩ (counted _)
        · exact answer_converter _ _ _ _ (counted _)
  · exact h

/-! ## The end of a burst (R40, R41, R65) -/

theorem formResult_fields (info : Info) (f : Flight) (codes : List Nat) :
    (formResult info f codes).1.start = f.start ∧ (formResult info f codes).1.sources = f.sources
      ∧ (formResult info f codes).1.credit = f.credit := by
  unfold formResult
  dsimp only
  split
  · split <;> exact ⟨rfl, rfl, rfl⟩
  · exact ⟨rfl, rfl, rfl⟩

theorem foldResult_interval (r : BurstResult) (acc : Accumulator) : (foldResult r acc).interval = acc.interval := by
  unfold foldResult
  dsimp only
  split <;> split <;> rfl

/-- A credited result releases the close that waits for it (R65). -/
theorem deliverToExposure_old {r : BurstResult} {s : State}
    (h : ∀ acc, s.ie.old = some acc → acc.interval = r.start.interval) : (deliverToExposure r s).ie.old = none := by
  unfold deliverToExposure
  dsimp only
  cases ho : s.ie.old with
  | none => rfl
  | some acc =>
    have hfold : foldInto r (some acc) = some (foldResult r acc) := by simp [foldInto, h acc ho]
    have hinterval : (foldResult r acc).interval = r.start.interval := (foldResult_interval r acc).trans (h acc ho)
    simp only [hfold, hinterval, if_true]
    exact runDeferred_old _

theorem deliverToExposure_live (r : BurstResult) (s : State) :
    (deliverToExposure r s).lc.liveInFlight = s.lc.liveInFlight
      ∧ (deliverToExposure r s).lc.liveWaiting = s.lc.liveWaiting := by
  unfold deliverToExposure
  dsimp only
  split
  · split
    · exact runDeferred_live _
    · exact ⟨rfl, rfl⟩
  · exact ⟨rfl, rfl⟩

theorem riseDetect_live (busy : Bool) (r : BurstResult) (s : State) :
    (riseDetect busy r s).lc.liveInFlight = s.lc.liveInFlight ∧ (riseDetect busy r s).lc.liveWaiting = s.lc.liveWaiting := by
  have event (n : Nat) : (riseEvent busy n s).lc.liveInFlight = s.lc.liveInFlight
      ∧ (riseEvent busy n s).lc.liveWaiting = s.lc.liveWaiting := by
    unfold riseEvent
    dsimp only
    split <;> simp
  unfold riseDetect
  split
  · exact ⟨rfl, rfl⟩
  · split
    · exact ⟨rfl, rfl⟩
    · dsimp only
      split
      · exact ⟨rfl, rfl⟩
      · split
        · exact event _
        · exact ⟨rfl, rfl⟩

/-- The delivery of the result of the burst in flight leaves no deferred close, and of the LIVE records the waiting one. -/
theorem deliver_frees (busy : Bool) {f : Flight} {r : BurstResult} {s : State} (h : s.ConverterSound)
    (hf : s.mc.burst.flight = some f) (hr : r.start = f.start ∧ r.sources = f.sources ∧ r.credit = f.credit) :
    (deliver busy r s).ie.old = none ∧ (deliver busy r s).lc.liveInFlight = none
      ∧ (deliver busy r s).lc.liveWaiting = s.lc.liveWaiting := by
  obtain ⟨hstart, hsources, hcredit⟩ := hr
  have hold (acc : Accumulator) (hacc : s.ie.old = some acc) : r.credit = true ∧ acc.interval = r.start.interval := by
    obtain ⟨g, hg, hc, hi⟩ := h.deferred acc hacc
    obtain rfl := Option.some.inj (hf.symm.trans hg)
    exact ⟨hcredit.trans hc, by rw [hstart]; exact hi.symm⟩
  have credited : ∃ u, u = (if r.credit then riseDetect busy r (deliverToExposure r s) else s) ∧ u.ie.old = none
      ∧ u.lc.liveInFlight = s.lc.liveInFlight ∧ u.lc.liveWaiting = s.lc.liveWaiting := by
    refine ⟨_, rfl, ?_⟩
    cases hc : r.credit with
    | true =>
      obtain ⟨hv, hw⟩ := riseDetect_live busy r (deliverToExposure r s)
      obtain ⟨hv', hw'⟩ := deliverToExposure_live r s
      exact ⟨by simpa using deliverToExposure_old fun acc hacc => (hold acc hacc).2, hv.trans hv', hw.trans hw'⟩
    | false =>
      refine ⟨?_, rfl, rfl⟩
      by_contra hne
      obtain ⟨acc, hacc⟩ := Option.ne_none_iff_exists'.mp hne
      simp [hc] at hold
      exact hold acc hacc
  obtain ⟨u, hu, huold, huv, huw⟩ := credited
  have hserves : s.lc.liveInFlight.isSome = r.sources.spot := by
    rw [h.inFlight, ConverterBlock.servesSpot, hf, hsources]
  unfold deliver
  simp only [← hu]
  cases hs : r.sources.spot with
  | true =>
    rw [if_pos rfl, answerLive]
    rw [hs, ← huv] at hserves
    obtain ⟨who, hwho⟩ := Option.isSome_iff_exists.mp hserves
    simp [hwho, huold, huw]
  | false =>
    rw [hs, ← huv] at hserves
    exact ⟨huold, by simpa using hserves, huw⟩

theorem completeBurst_converter (busy : Bool) {f : Flight} (codes : List Nat) {s : State} (h : s.ConverterSound)
    (hf : s.mc.burst.flight = some f) : (completeBurst busy f codes s).ConverterSound := by
  have noted : (noteAll f.start (formResult s.info f codes).2 s).ConverterSound :=
    h.of_eq (by simp) (by simp) (by simp) (noteAll_notes ..).supply.2
  have hflight : (noteAll f.start (formResult s.info f codes).2 s).mc.burst.flight = some f := by simpa using hf
  have hr := formResult_fields s.info f codes
  unfold completeBurst
  dsimp only
  generalize noteAll f.start (formResult s.info f codes).2 s = u at noted hflight ⊢
  generalize (formResult s.info f codes).1 = r at hr ⊢
  obtain ⟨lives, quiet, deferred⟩ := converterSound_iff.mp noted
  have hworking : u.Working := by
    refine quiet.resolve_left fun hi => ?_
    simp [hi, Burst.flight] at hflight
  have last : ({ u with mc := { u.mc with last := some r } } : State).ConverterSound :=
    ⟨lives.idle, noted.quiet, lives.inFlight, lives.waiting, deferred⟩
  obtain ⟨hold, hv, hw⟩ := deliver_frees busy last hflight hr
  refine startBurst_sound (hworking.of_supply (deliver_notes busy r _).supply) rfl hold ?_
  show (_ || _) = (deliver busy r _).mc.triggers.spot
  rw [hv, hw]
  simpa using lives.waiting

/-! ## The supply and the power -/

theorem setSupply_converter (supply : Supply) {s : State} (h : s.ConverterSound) : (setSupply supply s).ConverterSound :=
  h.of_eq (by simp) (by simp) (by simp) (by simp [setSupply_sf])

theorem fallToLow_converter {s : State} (h : s.ConverterSound) : (fallToLow s).ConverterSound :=
  h.of_eq (by simp) (by simp) (by simp) (by simp [fallToLow, noteNow, note, clearFast])

theorem riseToLow_converter {s : State} (h : s.ConverterSound) : (riseToLow s).ConverterSound := by
  have hlow := setSupply_converter .low h
  unfold riseToLow
  dsimp only
  split
  · rename_i hhalted
    have hb : (setSupply .low s).mc.burst = .idle := hlow.quiet (.inl hhalted)
    obtain ⟨lives, _, deferred⟩ := converterSound_iff.mp hlow
    refine converterSound_iff.mpr ⟨lives.of_eq ?_ ?_, .inl ?_, fun acc hacc => absurd (deferred.none_of_idle hb) ?_⟩
    · simp [clearCompare, clearRise, radioOn]
    · simp [clearCompare, clearRise, radioOn]
    · simpa [clearCompare, clearRise, radioOn] using hb
    · simp [clearCompare, clearRise, radioOn] at hacc
      simp [hacc]
  · exact hlow

/-- The CRITICAL entry aborts the burst, and a deferred close then runs (R30, R171). -/
theorem fallToCritical_converter (busy : Bool) {s : State} (h : s.ConverterSound) :
    (fallToCritical busy s).ConverterSound := by
  have hcritical := setSupply_converter .critical h
  unfold fallToCritical
  dsimp only
  split
  · exact hcritical
  · let pending : State := { setSupply .critical s with sf := { (setSupply .critical s).sf with haltPending := true } }
    have lives : pending.LivesSound := (converterSound_iff.mp hcritical).1.of_eq rfl ⟨rfl, rfl⟩
    obtain ⟨hidle, aborted⟩ := abortBurst_idle busy lives
    have closed := runDeferred_converter aborted (.inl hidle)
    show (enterHaltPending busy _).ConverterSound
    unfold enterHaltPending
    have off {u : State} (hu : u.ConverterSound) : ({ radioOff u with nt := emptyTable } : State).ConverterSound :=
      hu.of_eq rfl ⟨rfl, rfl⟩ rfl ⟨rfl, rfl⟩
    have offered {u : State} (hu : u.ConverterSound) : (offerCritical u).ConverterSound :=
      hu.of_eq (by simp) (by simp) (by simp) (offerCritical_notes u).supply.2
    exact offered (off closed)

theorem halts_converter {s : State} (h : s.ConverterSound) : (halts s).ConverterSound := by
  obtain ⟨lives, quiet, deferred⟩ := converterSound_iff.mp h
  unfold halts
  split
  · rename_i hr
    have hb : s.mc.burst = .idle := h.quiet (.inr (by simp [State.haltReady] at hr; tauto))
    split <;> exact converterSound_iff.mpr ⟨lives.of_eq rfl ⟨rfl, rfl⟩, .inl hb, deferred⟩
  · exact h

/-- The blocks of a restore hold no burst, LIVE record or deferred close, and its notes and writes bring none. -/
theorem restore_converter (p : ProfileRecord) {s : State} (hmc : s.mc = ConverterBlock.blank)
    (hlive : s.lc.liveInFlight = none ∧ s.lc.liveWaiting = none) : (restore p s).ConverterSound := by
  have blocks : (restoreBlocks p s).ConverterSound :=
    converterSound_of_none (congrArg ConverterBlock.burst hmc) (congrArg ConverterBlock.triggers hmc) hlive.1 hlive.2 rfl
  have noted (code : FaultCode) (datum : List Byte) {u : State} (hu : u.ConverterSound) :
      (noteNow code datum u).ConverterSound := hu.of_eq rfl ⟨rfl, rfl⟩ rfl ⟨rfl, rfl⟩
  have started {u : State} (hu : u.ConverterSound) : (startWrites u).ConverterSound :=
    hu.of_eq (by simp) (by simp) (by simp) (startWrites_notes u).supply.2
  unfold restore
  refine started (noted _ _ ?_)
  split
  · exact noted _ _ blocks
  · exact blocks

theorem examineStore_converter {s : State} (hmc : s.mc = ConverterBlock.blank)
    (hlive : s.lc.liveInFlight = none ∧ s.lc.liveWaiting = none) (ho : s.ie.old = none) :
    (examineStore s).ConverterSound := by
  have blank {u : State} (hu : u.mc = s.mc) (hv : u.lc.liveInFlight = s.lc.liveInFlight)
      (hw : u.lc.liveWaiting = s.lc.liveWaiting) (huo : u.ie.old = none) : u.ConverterSound :=
    converterSound_of_none (congrArg ConverterBlock.burst (hu.trans hmc)) (congrArg ConverterBlock.triggers (hu.trans hmc))
      (hv.trans hlive.1) (hw.trans hlive.2) huo
  unfold examineStore
  split
  · exact blank rfl rfl rfl ho
  · split
    · exact blank rfl rfl rfl ho
    · split
      · exact blank rfl rfl rfl rfl
      · exact restore_converter _ hmc hlive

/-! ## The store -/

theorem answerHeld_converter (held : Option Asker) (status : Status) (page : Nat) (payload : List Byte) (busy : Bool)
    {s : State} (h : s.ConverterSound) : (answerHeld held status page payload busy s).ConverterSound := by
  refine h.of_eq (by simp) ?_ (by simp) (answerHeld_notes ..).supply.2
  cases held <;> simp [answerHeld]

/-- The entry to PRECOOL leaves the converter, and no close waits (R6, R63). -/
theorem profileWritten_converter (r : ProfileRecord) (busy : Bool) {s : State} (h : s.ConverterSound) :
    (profileWritten r busy s).ConverterSound := by
  obtain ⟨lives, quiet, _⟩ := converterSound_iff.mp h
  refine answerHeld_converter _ _ _ _ _ (converterSound_iff.mpr ⟨lives.of_eq ?_ ?_, ?_, fun acc hacc => ?_⟩)
  · simp
  · simp [enterPrecool]
  · simpa [State.Working] using quiet
  · simp [enterPrecool, ExposureBlock.blank] at hacc

theorem recordEnds_converter (ok busy : Bool) (r : QueueRecord) {s : State} (h : s.ConverterSound) :
    (recordEnds ok busy r s).ConverterSound := by
  have noted : (if ok then s else noteNow .storeFail r.datum s).ConverterSound := by
    split
    · exact h
    · exact h.of_eq rfl ⟨rfl, rfl⟩ rfl ⟨rfl, rfl⟩
  unfold recordEnds
  dsimp only
  generalize (if ok then s else noteNow .storeFail r.datum s) = u at noted
  have next {v : State} (hv : v.ConverterSound) : (nextWrite v).ConverterSound :=
    hv.of_eq (by simp) (by simp) (by simp) (nextWrite_notes v).supply.2
  have hn := next noted
  cases r with
  | profile p =>
    dsimp only
    split
    · exact profileWritten_converter p busy hn
    · exact answerHeld_converter _ _ _ _ _ (hn.of_eq rfl ⟨rfl, rfl⟩ rfl ⟨rfl, rfl⟩)
  | episode e =>
    dsimp only
    split
    · exact next (noted.of_eq rfl ⟨rfl, rfl⟩ rfl ⟨rfl, rfl⟩)
    · exact next (noted.of_eq (by simp) (by simp) (by simp) (foldEpisode_notes ..).supply.2)
  | leg l => exact next (noted.of_eq (t := legEnds ok l u) rfl ⟨rfl, rfl⟩ rfl ⟨rfl, rfl⟩)
  | checkpoint c => exact next (noted.of_eq (t := checkpointEnds ok c u) rfl ⟨rfl, rfl⟩ rfl ⟨rfl, rfl⟩)
  | certificate c => exact answerHeld_converter _ _ _ _ _ (hn.of_eq rfl ⟨rfl, rfl⟩ rfl ⟨rfl, rfl⟩)

/-! ## Every command -/

theorem takeBeacon_converter (b : BeaconFrame) (quality : Byte) {s : State} (h : s.ConverterSound) :
    (takeBeacon b quality s).ConverterSound := by
  have entered : (enterBeacon b quality s).ConverterSound := by
    unfold enterBeacon
    split <;> exact h.of_eq rfl ⟨rfl, rfl⟩ rfl ⟨rfl, rfl⟩
  unfold takeBeacon
  split
  · exact h.of_eq rfl ⟨rfl, rfl⟩ rfl ⟨rfl, rfl⟩
  · dsimp only
    split
    · exact (trigger_converter (src := .alert) (by decide) entered).of_eq (by simp) (by simp) (by simp) (by simp)
    · exact entered

theorem conversionEnds_converter (code : Code) (busy : Bool) {s : State} (h : s.ConverterSound) :
    (conversionEnds code busy s).ConverterSound := by
  unfold conversionEnds
  split
  · rename_i f codes hb
    have hflight : s.mc.burst.flight = some f := by rw [hb]; rfl
    dsimp only
    split
    · exact h.ofStage hflight rfl rfl rfl rfl rfl
    · exact completeBurst_converter busy _ h hflight
  all_goals exact h

theorem compareMatches_converter {s : State} (h : s.ConverterSound) : (compareMatches s).ConverterSound := by
  have reached (c : Nat) : (reachPhase c s).ConverterSound := h.of_eq (by simp) (by simp) (by simp) (by simp)
  have advanced (c : Nat) {u : State} (hu : u.ConverterSound) : (advanceCompare c u).ConverterSound :=
    hu.of_eq rfl ⟨rfl, rfl⟩ rfl ⟨rfl, rfl⟩
  unfold compareMatches
  split
  · dsimp only
    refine advanced _ ?_
    split
    · exact trigger_converter (by decide) (reached _)
    · exact reached _
  · exact h

theorem exec_converter (i : Instr) {s : State} (hr : s.RadioSound) (h : s.ConverterSound) :
    (afterExec i s).ConverterSound := by
  apply exec_ind State.ConverterSound s h
  case command => exact fun kind f busy _ => receiveCommand_converter kind f busy hr h
  case good => exact fun _ _ => h.of_eq rfl ⟨rfl, rfl⟩ rfl ⟨rfl, rfl⟩
  case bad => exact fun _ _ _ => h.of_eq rfl ⟨rfl, rfl⟩ rfl ⟨rfl, rfl⟩
  case beacon =>
    intro b q _ _
    unfold dispatchBeacon
    split
    · exact takeBeacon_converter b q (h.of_eq rfl ⟨rfl, rfl⟩ rfl ⟨rfl, rfl⟩)
    · exact h.of_eq rfl ⟨rfl, rfl⟩ rfl ⟨rfl, rfl⟩
  case settling =>
    intro _
    unfold settlingEnds
    split
    · rename_i f hb
      exact h.ofStage (f := f) (by rw [hb]; rfl) rfl rfl rfl rfl rfl
    all_goals exact h
  case conversion => exact fun code busy _ => conversionEnds_converter code busy h
  case atBoundary =>
    intro _
    have steps : (boundarySteps s).ConverterSound := h.of_eq rfl ⟨rfl, rfl⟩ rfl ⟨rfl, rfl⟩
    unfold boundary
    split
    · exact steps
    · exact boundaryToExposure_converter steps
  case atCompare => exact fun _ => compareMatches_converter h
  case due =>
    intro busy _
    refine h.of_eq (by simp) ?_ (by simp) (beaconDue_notes busy s).supply.2
    unfold beaconDue
    dsimp only
    split <;> simp
  case backoff =>
    intro busy next _
    refine h.of_eq (by simp) ?_ (by simp) (backoffEnds_notes busy next s).supply.2
    unfold backoffEnds
    split <;> simp
  case complete =>
    intro busy _
    refine h.of_eq (by simp) ?_ (by simp) (transmitCompletes_notes busy s).supply.2
    unfold transmitCompletes countSent
    split
    · split <;> simp [counting]
    · simp
  case timeout =>
    intro busy _
    refine h.of_eq (by simp) ?_ (by simp) (transmitTimesOut_notes busy s).supply.2
    unfold transmitTimesOut
    split <;> simp
  case wait =>
    intro busy _
    refine h.of_eq (by simp) ?_ (by simp) (waitEnds_notes busy s).supply.2
    unfold waitEnds
    split <;> simp
  case write =>
    intro v b busy _
    unfold writeEnds
    split
    · split
      · exact recordEnds_converter _ _ _ h
      · exact h
    · exact h
  case handOver => exact fun _ => h.of_eq (by simp) (by simp) (by simp) (handOverClosing_notes s).supply.2
  case admitted => exact fun _ => h.of_eq (by simp) (by simp) (by simp) (admitCritical_notes s).supply.2
  case erased =>
    intro busy _
    unfold eraseCompletes
    split
    · exact answerHeld_converter _ _ _ _ _ (converterSound_of_none (by simp [blankBlocks, ConverterBlock.blank])
        (by simp [blankBlocks, ConverterBlock.blank]) (by simp [blankBlocks]) (by simp [blankBlocks])
        (by simp [blankBlocks, ExposureBlock.blank]))
    · exact h
  case low =>
    intro _
    unfold supplyFallsLow
    split
    · exact fallToLow_converter h
    · exact h
  case rises =>
    intro _
    unfold supplyRisesGood
    split
    · exact h
    · exact setSupply_converter _ h
    · exact setSupply_converter _ (riseToLow_converter h)
  case critical =>
    intro busy _
    unfold supplyFallsCritical
    split
    · exact fallToCritical_converter busy (fallToLow_converter h)
    · exact fallToCritical_converter busy h
    · exact h
  case recovers =>
    intro _
    unfold supplyRecovers
    split
    · exact riseToLow_converter h
    · exact h
  case ready => exact fun _ => halts_converter h
  case loss => exact fun _ => converterSound_of_none rfl rfl rfl rfl rfl
  case on => exact fun mv => examineStore_converter rfl ⟨rfl, rfl⟩ rfl

/-- Settles O9: with the line following the halt, every command keeps the converter, and time does not touch it. -/
theorem stepKeepsConverter : Obligations.StepKeepsConverter := by
  intro s t hr hs h
  have time {u v : State} (hu : u.RadioSound ∧ u.ConverterSound) (hlc : v.lc = u.lc) (hsf : v.sf = u.sf) (hmc : v.mc = u.mc)
      (hie : v.ie = u.ie) : v.RadioSound ∧ v.ConverterSound :=
    ⟨hu.1.of_eq hlc hsf, hu.2.of_eq hmc (by rw [hlc]; exact ⟨rfl, rfl⟩) (by rw [hie]) (by rw [hsf]; exact ⟨rfl, rfl⟩)⟩
  refine step_of_exec (fun u => u.RadioSound ∧ u.ConverterSound) State.ConverterSound (fun _ hu => hu.2)
    (fun i u hu => exec_converter i hu.1 hu.2) ?_ ?_ ?_ ?_ ?_ ⟨hr, hs⟩ h
  · exact fun u q hu => time hu rfl rfl rfl rfl
  · exact fun u hu => time hu rfl rfl rfl rfl
  · exact fun u hu => time hu rfl rfl rfl rfl
  · exact fun u _ hu => time hu rfl rfl rfl rfl
  · exact fun u _ hu => time hu rfl rfl rfl rfl

end Sys2Proof.Machine
end

section
/-! SUPPORT. The chill certificate (chapter 9): where a leg is found, the extremes over the legs found, the grade, and what
keeps the certificate of a CLOSED part; with the settled statement beside them. -/

namespace Sys2Proof.Machine

/-! ## Where a leg is found (R154, R163) -/

/-- The leg of a record in the write queue. -/
def QueueRecord.leg? : QueueRecord → Option Leg
  | .leg l => some l
  | .profile _ | .episode _ | .checkpoint _ | .certificate _ => none

/-- The leg of a closing record. -/
def ClosingItem.leg? : ClosingItem → Option Leg
  | .leg l => some l
  | .episode _ | .checkpoint | .certificate => none

/-- The closed legs still to be written, in the write queue first (R161; log 23). -/
def State.queuedLegs (s : State) : List Leg :=
  s.es.queue.filterMap QueueRecord.leg? ++ s.cu.closing.filterMap ClosingItem.leg?

theorem mem_queuedLegs {s : State} {l : Leg} :
    l ∈ s.queuedLegs ↔ QueueRecord.leg l ∈ s.es.queue ∨ ClosingItem.leg l ∈ s.cu.closing := by
  have queue : (∃ r ∈ s.es.queue, r.leg? = some l) ↔ QueueRecord.leg l ∈ s.es.queue := by
    refine ⟨?_, fun h => ⟨_, h, rfl⟩⟩
    rintro ⟨r, hr, hl⟩
    cases r <;> simp_all [QueueRecord.leg?]
  have closing : (∃ r ∈ s.cu.closing, r.leg? = some l) ↔ ClosingItem.leg l ∈ s.cu.closing := by
    refine ⟨?_, fun h => ⟨_, h, rfl⟩⟩
    rintro ⟨r, hr, hl⟩
    cases r <;> simp_all [ClosingItem.leg?]
  rw [State.queuedLegs, List.mem_append, List.mem_filterMap, List.mem_filterMap, queue, closing]

theorem queuedLeg_eq (k : Nat) (q : List QueueRecord) :
    queuedLeg k q = (q.filterMap QueueRecord.leg?).find? (fun l => l.number = k) := by
  induction q with
  | nil => rfl
  | cons r rest ih =>
    cases r with
    | leg l => by_cases hk : l.number = k <;> simp [queuedLeg, QueueRecord.leg?, hk, ih]
    | _ => exact ih

theorem closingLeg_eq (k : Nat) (items : List ClosingItem) :
    closingLeg k items = (items.filterMap ClosingItem.leg?).find? (fun l => l.number = k) := by
  induction items with
  | nil => rfl
  | cons r rest ih =>
    cases r with
    | leg l => by_cases hk : l.number = k <;> simp [closingLeg, ClosingItem.leg?, hk, ih]
    | _ => exact ih

theorem legPlace_of_open {k : Nat} {s : State} {l : Leg} (h : s.es.openLeg = some l) (hk : l.number = k) :
    legPlace k s = .opened l := by
  have hopen : s.es.openLeg.filter (fun l => l.number = k) = some l := by simp [h, hk]
  rw [legPlace, hopen]

/-- With no open leg of the number, a queued record comes before the slot (R154; log 49). -/
theorem legPlace_of_closed {k : Nat} {s : State} (hopen : ∀ l, s.es.openLeg = some l → l.number ≠ k) :
    legPlace k s = match s.queuedLegs.find? (fun l => l.number = k) with
      | some l => .queued l
      | none => match (s.nv.legs[k - 1]?).join with
        | some l => .stored l
        | none => .notStored := by
  have hnone : s.es.openLeg.filter (fun l => l.number = k) = none := by
    cases ho : s.es.openLeg with
    | none => rfl
    | some l => simp [hopen l ho]
  rw [legPlace, hnone, queuedLeg_eq, closingLeg_eq, State.queuedLegs, List.find?_append, Option.orElse_eq_or] <;> rfl

/-- The second part of the settled statement, of one number and one state. -/
theorem legPlace_cases (k : Nat) (s : State) :
    let queued (l : Leg) : Prop := (QueueRecord.leg l ∈ s.es.queue ∨ ClosingItem.leg l ∈ s.cu.closing) ∧ l.number = k
    (∀ l, s.es.openLeg = some l → l.number = k → legPlace k s = .opened l)
      ∧ ((∀ l, s.es.openLeg = some l → l.number ≠ k) →
        (∀ l, queued l → ∃ l', queued l' ∧ legPlace k s = .queued l')
        ∧ ((∀ l, ¬ queued l) →
            (∀ l, s.nv.legs[k - 1]? = some (some l) → legPlace k s = .stored l)
            ∧ ((∀ l, s.nv.legs[k - 1]? ≠ some (some l)) → legPlace k s = .notStored))) := by
  intro queued
  refine ⟨fun l => legPlace_of_open, fun hopen => ?_⟩
  rw [legPlace_of_closed hopen]
  cases hfind : s.queuedLegs.find? (fun l => l.number = k) with
  | some l' =>
    have hqueued : queued l' :=
      ⟨mem_queuedLegs.mp (List.mem_of_find?_eq_some hfind), by simpa using List.find?_some hfind⟩
    exact ⟨fun _ _ => ⟨l', hqueued, rfl⟩, fun h => absurd hqueued (h l')⟩
  | none =>
    refine ⟨fun l hl => ?_, fun _ => ⟨fun l hl => by simp [hl], fun hl => ?_⟩⟩
    · have := List.find?_eq_none.mp hfind l (mem_queuedLegs.mpr hl.1)
      exact absurd hl.2 (by simpa using this)
    · cases hslot : s.nv.legs[k - 1]? with
      | none => rfl
      | some slot =>
        cases slot with
        | none => rfl
        | some l => exact absurd hslot (hl l)

/-! ## The overall figures (R163) -/

/-- A pair of figures holds the extremes of the figures with a property, which it has where there are any. -/
def IsExtremes (P : Figures → Prop) : Option Figures → Prop
  | none => ∀ g, ¬ P g
  | some f => (∃ g, P g ∧ g.hi = f.hi) ∧ (∃ g, P g ∧ g.lo = f.lo) ∧ ∀ g, P g → g.hi ≤ f.hi ∧ f.lo ≤ g.lo

theorem joinFigures_extremes {P : Figures → Prop} {a : Option Figures} (h : IsExtremes P a) (o : Option Figures) :
    IsExtremes (fun g => P g ∨ o = some g) (joinFigures a o) := by
  cases a with
  | none =>
    cases o with
    | none => exact fun g hg => hg.elim (h g) nofun
    | some f =>
      refine ⟨⟨f, .inr rfl, rfl⟩, ⟨f, .inr rfl, rfl⟩, fun g hg => ?_⟩
      obtain rfl := Option.some.inj (hg.resolve_left (h g))
      exact ⟨le_refl _, le_refl _⟩
  | some f =>
    obtain ⟨⟨x, hx, hxf⟩, ⟨y, hy, hyf⟩, hall⟩ := h
    cases o with
    | none => exact ⟨⟨x, .inl hx, hxf⟩, ⟨y, .inl hy, hyf⟩, fun g hg => hall g (hg.resolve_right nofun)⟩
    | some e =>
      refine ⟨?_, ?_, ?_⟩
      · rcases le_total f.hi e.hi with hle | hle
        · exact ⟨e, .inr rfl, (max_eq_right hle).symm⟩
        · exact ⟨x, .inl hx, hxf.trans (max_eq_left hle).symm⟩
      · rcases le_total f.lo e.lo with hle | hle
        · exact ⟨y, .inl hy, hyf.trans (min_eq_left hle).symm⟩
        · exact ⟨e, .inr rfl, (min_eq_right hle).symm⟩
      · rintro g (hg | hg)
        · exact ⟨(hall g hg).1.trans (le_max_left ..), (min_le_left ..).trans (hall g hg).2⟩
        · obtain rfl := Option.some.inj hg
          exact ⟨le_max_right .., min_le_right ..⟩

/-- The overall figures are the extremes over the legs that hold figures (R163). -/
theorem overallFigures_extremes (legs : List (Option Leg)) :
    IsExtremes (fun g => ∃ o ∈ legs, o.bind (·.figures) = some g) (overallFigures legs) := by
  have folded (P : Figures → Prop) (acc : Option Figures) (h : IsExtremes P acc) :
      IsExtremes (fun g => P g ∨ ∃ o ∈ legs, o.bind (·.figures) = some g)
        (legs.foldl (fun acc l => joinFigures acc (l.bind (·.figures))) acc) := by
    induction legs generalizing P acc with
    | nil => simpa using h
    | cons o rest ih =>
      have := ih _ _ (joinFigures_extremes h (o.bind (·.figures)))
      simpa [or_assoc] using this
  simpa [overallFigures] using folded (fun _ => False) none fun _ => id

/-- The legs that the certificate finds are the places of the numbers up to the leg count (R163). -/
theorem mem_legsFound {s : State} {o : Option Leg} :
    o ∈ legsFound s ↔ ∃ k, 1 ≤ k ∧ k ≤ s.es.legCount ∧ (legPlace k s).leg? = o := by
  rw [legsFound, List.mem_map]
  constructor
  · rintro ⟨k, hk, ho⟩
    exact ⟨k + 1, by omega, List.mem_range.mp hk, ho⟩
  · rintro ⟨k, hpos, hk, ho⟩
    exact ⟨k - 1, List.mem_range.mpr (by omega), by rwa [Nat.sub_add_cancel hpos]⟩

/-- The figures of the certificate, in the statement's words. -/
theorem overallFigures_legsFound (s : State) :
    let found (k : Nat) (l : Leg) : Prop := 1 ≤ k ∧ k ≤ s.es.legCount ∧ (legPlace k s).leg? = some l
    IsExtremes (fun g => ∃ k l, found k l ∧ l.figures = some g) (overallFigures (legsFound s)) := by
  intro found
  have same : (fun g => ∃ k l, found k l ∧ l.figures = some g)
      = fun g => ∃ o ∈ legsFound s, o.bind (·.figures) = some g := by
    funext g
    refine propext ⟨?_, ?_⟩
    · rintro ⟨k, l, hfound, hl⟩
      exact ⟨some l, mem_legsFound.mpr ⟨k, hfound⟩, hl⟩
    · rintro ⟨o, ho, hg⟩
      obtain ⟨l, rfl, hl⟩ := Option.bind_eq_some_iff.mp hg
      obtain ⟨k, hk⟩ := mem_legsFound.mp ho
      exact ⟨k, l, hk, hl⟩
  rw [same]
  exact overallFigures_extremes _

/-! ## The grade and the pages (R164, R167, R168) -/

theorem gradeOf_eq (custodyStart : Option Nat) (causes : Causes) (counts : Counts) (gapRun : Nat) :
    gradeOf custodyStart causes counts gapRun =
      (if custodyStart = none then .notStarted
        else if causes ≠ ⟨false, false, false, false, false, false⟩ then .broken
        else if counts.air = 0 ∧ counts.witness = 0 ∧ counts.bridged = 0 ∧ counts.unbridged = 0
          ∧ counts.lost = 0 ∧ counts.raised = 0 ∧ gapRun = 0 then .clean
        else .supported) := by
  exact if_congr Option.isNone_iff_eq_none rfl (if_congr (Causes.nonempty_iff causes) rfl rfl)

theorem certificate_contents_length (c : Certificate) : (c.contentA ++ c.contentB).length = 81 := by
  simp [Certificate.contentA, Certificate.contentB]

/-- The first part of the settled statement: every field of the certificate computed now. -/
theorem computeCertificate_fields (provisional : Bool) (s : State) :
    let c := computeCertificate provisional s
    let found (k : Nat) (l : Leg) : Prop := 1 ≤ k ∧ k ≤ s.es.legCount ∧ (legPlace k s).leg? = some l
    c.grade =
        (if c.custodyStart = none then .notStarted
          else if c.causes ≠ ⟨false, false, false, false, false, false⟩ then .broken
          else if c.counts.air = 0 ∧ c.counts.witness = 0 ∧ c.counts.bridged = 0 ∧ c.counts.unbridged = 0
            ∧ c.counts.lost = 0 ∧ c.counts.raised = 0 ∧ c.gapRun = 0 then .clean
          else .supported)
    ∧ c.legsNotStored = (List.range s.es.legCount).countP (fun k => (legPlace (k + 1) s).leg?.isNone)
    ∧ (c.figures = none ↔ ∀ k l, found k l → l.figures = none)
    ∧ (∀ f, c.figures = some f →
        (∃ k l g, found k l ∧ l.figures = some g ∧ g.hi = f.hi)
          ∧ (∃ k l g, found k l ∧ l.figures = some g ∧ g.lo = f.lo)
          ∧ ∀ k l g, found k l → l.figures = some g → g.hi ≤ f.hi ∧ f.lo ≤ g.lo) := by
  intro c found
  have extremes : IsExtremes (fun g => ∃ k l, found k l ∧ l.figures = some g) c.figures := overallFigures_legsFound s
  refine ⟨gradeOf_eq .., ?_, ?_, fun f hf => ?_⟩
  · show (legsFound s).countP _ = _
    rw [legsFound, List.countP_map]
    rfl
  · cases hf : c.figures with
    | none =>
      rw [hf] at extremes
      refine iff_of_true rfl fun k l hl => ?_
      by_contra hne
      obtain ⟨g, hg⟩ := Option.ne_none_iff_exists'.mp hne
      exact extremes g ⟨k, l, hl, hg⟩
    | some f =>
      rw [hf] at extremes
      obtain ⟨⟨g, ⟨k, l, hl, hg⟩, _⟩, _⟩ := extremes
      exact iff_of_false nofun fun h => by simp [h k l hl] at hg
  · rw [hf] at extremes
    obtain ⟨⟨g, ⟨k, l, hl, hg⟩, hhi⟩, ⟨g', ⟨k', l', hl', hg'⟩, hlo⟩, hall⟩ := extremes
    exact ⟨⟨k, l, g, hl, hg, hhi⟩, ⟨k', l', g', hl', hg', hlo⟩, fun k l g hl hg => hall g ⟨k, l, hl, hg⟩⟩

/-! ## The certificate of a CLOSED part (R161, R166) -/

/-- The record of the certificate and its copy in retention stay. -/
def CertificateKept (s t : State) : Prop :=
  t.nv.certificate = s.nv.certificate ∧ t.cu.certificate = s.cu.certificate

theorem WritesAhead.certificateKept {s t : State} (h : WritesAhead s t) (hcu : t.cu = s.cu) : CertificateKept s t :=
  ⟨h.certificate, by rw [hcu]⟩

theorem certificateKept_of_eq {s t : State} (hnv : t.nv = s.nv) (hcu : t.cu = s.cu) : CertificateKept s t :=
  ⟨by rw [hnv], by rw [hcu]⟩

theorem certificateNow_of_kept {s t : State} (h : CertificateKept s t) (hs : s.cu.custody = .closed)
    (ht : t.cu.custody = .closed) (hc : s.nv.certificate.isSome = true ∨ s.cu.certificate.isSome = true) :
    certificateNow t = certificateNow s := by
  rw [certificateNow, certificateNow, if_pos hs, if_pos ht, h.1, h.2]
  cases hn : s.nv.certificate with
  | some c => rfl
  | none =>
    cases hcu : s.cu.certificate with
    | some c => rfl
    | none => simp [hn, hcu] at hc

/-- With no close deferred, the end of a conversion leaves the custody controller. -/
theorem conversionEnds_cu_of_none {s : State} (hold : s.ie.old = none) (code : Code) (busy : Bool) :
    (conversionEnds code busy s).cu = s.cu := by
  have delivered (r : BurstResult) {u : State} (hu : u.ie.old = none) : (deliverToExposure r u).cu = u.cu := by
    unfold deliverToExposure
    simp [hu, foldInto]
  unfold conversionEnds
  split
  · dsimp only
    split
    · rfl
    · unfold completeBurst deliver
      dsimp only
      split <;> split <;> simp [delivered, hold]
  all_goals rfl

/-- With no close deferred, a fall to CRITICAL leaves the custody controller. -/
theorem fallToCritical_cu_of_none {s : State} (hold : s.ie.old = none) (busy : Bool) :
    (fallToCritical busy s).cu = s.cu := by
  unfold fallToCritical
  dsimp only
  split
  · simp
  · unfold enterHaltPending
    rw [runDeferred_of_none (by simpa using hold)]
    simp

section
variable {s : State} (hc : s.cu.custody = .closed)
include hc

theorem dispatchCommand_certificate (kind : CommandKind) (who : Asker) (payload : List Byte) (busy : Bool) :
    CertificateKept s (dispatchCommand kind who payload busy s) := by
  have answered (status : Status) (page : List Byte) : CertificateKept s (answer who status page busy s) :=
    certificateKept_of_eq (by simp) (by simp)
  have hs : s.cu.custody.inService ≠ true := by simp [hc, Custody.inService]
  cases kind with
  | commission =>
    show CertificateKept s (takeCommission who payload busy s)
    rw [takeCommission, if_neg (by simp [hc])]
    exact answered ..
  | handover =>
    show CertificateKept s (takeHandover who payload busy s)
    rw [takeHandover, if_neg hs, if_pos hc]
    exact answered ..
  | query => exact certificateKept_of_eq (t := takeQuery who _ _ busy s) (by simp) (by simp)
  | live => exact certificateKept_of_eq (t := takeLive who busy s) (by simp) (by simp)
  | close =>
    show CertificateKept s (takeClose who busy s)
    rw [takeClose_of_closed who busy hc]
    exact certificateKept_of_eq (by simp) (by simp)
  | erase =>
    show CertificateKept s (takeErase who busy s)
    rw [takeErase, if_pos hc]
    exact ⟨rfl, rfl⟩

theorem receiveCommand_certificate (kind : CommandKind) (f : CommandFrame) (busy : Bool) :
    CertificateKept s (receiveCommand kind f busy s) := by
  unfold receiveCommand delivered
  split
  · unfold examineCommand
    dsimp only
    split
    · exact certificateKept_of_eq rfl rfl
    · split
      · exact certificateKept_of_eq (by simp) (by simp)
      · split
        · exact dispatchCommand_certificate (s := counting _ (countGood s)) hc kind _ f.payload busy
        · exact certificateKept_of_eq (by simp) (by simp)
  · exact certificateKept_of_eq rfl rfl

/-- The records of a part that is no longer CLOSING hold no profile and no certificate (R5, R14). -/
theorem writeEnds_certificate (h : s.CustodySound) (v b busy : Bool) : CertificateKept s (writeEnds v b busy s) := by
  unfold writeEnds
  split
  · split
    · rename_i r rest hq
      have hr : r ∈ s.es.queue := by rw [hq]; exact List.mem_cons_self
      unfold recordEnds
      dsimp only
      have noted : ∃ u, u = (if v && !b then s else noteNow .storeFail r.datum s) ∧ u.nv = s.nv ∧ u.cu = s.cu := by
        refine ⟨_, rfl, ?_⟩
        split <;> exact ⟨rfl, rfl⟩
      obtain ⟨u, hu, hnv, hcu⟩ := noted
      rw [← hu]
      cases r with
      | profile p => simp [h.profile p hr] at hc
      | certificate c => simp [(h.certificate c hr).1] at hc
      | episode e =>
        dsimp only
        split <;> exact ⟨by simp [episodeStored, hnv], by simp [hcu]⟩
      | leg l => exact ⟨by simp [legEnds, hnv], by simp [hcu]⟩
      | checkpoint c => exact ⟨by simp [checkpointEnds, hnv], by simp [hcu]⟩
    · exact certificateKept_of_eq rfl rfl
  · exact certificateKept_of_eq rfl rfl

theorem exec_certificate (h : s.CustodySound) {i : Instr} (hl : i ≠ .retentionLoss) (hp : ∀ mv, i ≠ .powerOn mv) :
    CertificateKept s (afterExec i s) := by
  have hs : s.cu.custody.inService = false := by rw [hc]; rfl
  have hold : s.ie.old = none := (h.idle hs).1.2
  apply exec_ind_powered (CertificateKept s) (certificateKept_of_eq rfl rfl) (hl := hl) (hp := hp)
  case command => exact fun kind f busy => receiveCommand_certificate hc kind f busy
  case conversion =>
    exact fun code busy => (conversionEnds_ahead code busy s).certificateKept (conversionEnds_cu_of_none hold code busy)
  case atBoundary =>
    unfold boundary
    split
    · exact certificateKept_of_eq rfl rfl
    · rw [boundaryToExposure_of_other (s := boundarySteps s) hs]
      exact certificateKept_of_eq rfl rfl
  case write => exact writeEnds_certificate hc h
  case handOver =>
    have hready : s.closingReady = false := by simp [State.closingReady, hc]
    rw [handOverClosing, if_neg (by simp [hready])]
    exact certificateKept_of_eq rfl rfl
  case admitted => exact (admitCritical_ahead s).certificateKept (by simp)
  case rises => exact (supplyRisesGood_ahead s).certificateKept (by simp)
  case critical =>
    intro busy
    refine (supplyFallsCritical_ahead busy s).certificateKept ?_
    unfold supplyFallsCritical
    split
    · rw [fallToCritical_cu_of_none (by simpa using hold)]
      simp
    · exact fallToCritical_cu_of_none hold busy
    · rfl
  case ready => exact (halts_ahead s).certificateKept (by simp)
  case recovers =>
    unfold supplyRecovers
    split
    · exact (riseToLow_ahead s).certificateKept (by simp)
    · exact certificateKept_of_eq rfl rfl
  case erased =>
    intro busy _
    rw [eraseCompletes, if_neg (by simp [hc])]
    exact certificateKept_of_eq rfl rfl
  all_goals intros; exact certificateKept_of_eq (by simp) (by simp)

end

/-- Settles O16: the fields one by one, the place of each leg, and the record and the copy that no command of a CLOSED
part touches. -/
theorem certificateComputedAndFrozen : Obligations.CertificateComputedAndFrozen := by
  refine ⟨fun provisional s => ?_, legPlace_cases, fun s => ⟨fun hs => ?_, fun c hs hc => ?_, fun c hs hn hc => ?_⟩, ?_⟩
  · intro c found
    obtain ⟨hgrade, hlegs, hnone, hsome⟩ := computeCertificate_fields provisional s
    exact ⟨rfl, rfl, rfl, rfl, rfl, rfl, rfl, rfl, rfl, rfl, rfl, rfl, rfl, rfl, rfl, hgrade, hlegs, hnone, hsome,
      certificate_contents_length c, rfl, rfl, rfl⟩
  · rw [certificateNow, if_neg hs]
  · exact certificateNow_of_record hs hc
  · rw [certificateNow, if_pos hs, hn, hc]
    rfl
  · intro i s t h hl hp ht hs hc htc
    rw [eq_afterExec ht] at htc ⊢
    exact certificateNow_of_kept (exec_certificate hs h hl hp) hs htc hc

end Sys2Proof.Machine
end

section
/-! SUPPORT. The run of a burst (R25, R26, R40 to R43, R64, R65, R157): its stages, the delivery of its result in the
statement's words, and the fold of a result; with the settled statement beside them. -/

namespace Sys2Proof.Machine

/-! ## The fold of a result (R64) -/

theorem foldResult_eq (r : BurstResult) (acc : Accumulator) :
    foldResult r acc = { acc with
      p := match r.p.temp? with | some t => widen acc.p t | none => acc.p
      pCount := match r.p.temp? with | some _ => min 15 (acc.pCount + 1) | none => acc.pCount
      a := match r.a.bind Outcome.temp? with | some t => widen acc.a t | none => acc.a
      aCount := match r.a.bind Outcome.temp? with | some _ => min 15 (acc.aCount + 1) | none => acc.aCount
      bursts := min 15 (acc.bursts + 1), sources := acc.sources.union r.sources } := by
  unfold foldResult
  cases r.p.temp? <;> cases r.a.bind Outcome.temp? <;> rfl

theorem Outcome.temp?_eq_some {o : Outcome} {t : Int} : o.temp? = some t ↔ o = .temp t := by
  cases o <;> simp [Outcome.temp?]

theorem widen_eq (old : Option Figures) (t : Int) :
    widen old t = some (match old with | some x => ⟨max x.hi t, min x.lo t⟩ | none => ⟨t, t⟩) := by
  cases old <;> rfl

/-- The last part of the settled statement. -/
theorem foldResult_cases (r : BurstResult) (acc : Accumulator) :
    let u := foldResult r acc
    let widened (old : Option Figures) (t : Int) : Figures :=
      match old with | some x => ⟨max x.hi t, min x.lo t⟩ | none => ⟨t, t⟩
    u.interval = acc.interval ∧ u.bursts = min 15 (acc.bursts + 1)
      ∧ u.sources = ⟨acc.sources.schedule || r.sources.schedule, acc.sources.alert || r.sources.alert,
          acc.sources.spot || r.sources.spot⟩
      ∧ (∀ t, r.p = .temp t → u.p = some (widened acc.p t) ∧ u.pCount = min 15 (acc.pCount + 1))
      ∧ ((∀ t, r.p ≠ .temp t) → u.p = acc.p ∧ u.pCount = acc.pCount)
      ∧ (∀ t, r.a = some (.temp t) → u.a = some (widened acc.a t) ∧ u.aCount = min 15 (acc.aCount + 1))
      ∧ ((∀ t, r.a ≠ some (.temp t)) → u.a = acc.a ∧ u.aCount = acc.aCount) := by
  intro u widened
  have hu : u = _ := foldResult_eq r acc
  have hnone {o : Option Outcome} (h : ∀ t, o ≠ some (.temp t)) : o.bind Outcome.temp? = none := by
    refine Option.eq_none_iff_forall_not_mem.mpr fun t ht => ?_
    obtain ⟨x, rfl, hx⟩ := Option.bind_eq_some_iff.mp ht
    exact h t (congrArg some (Outcome.temp?_eq_some.mp hx))
  rw [hu]
  refine ⟨rfl, rfl, rfl, fun t ht => ?_, fun h => ?_, fun t ht => ?_, fun h => ?_⟩
  · simp [ht, Outcome.temp?, widen_eq, widened]
  · simp [show r.p.temp? = none from hnone (o := some r.p) fun t ht => h t (Option.some.inj ht)]
  · simp [ht, Outcome.temp?, widen_eq, widened]
  · simp [hnone h]

/-! ## The result (R26, R32) -/

theorem channelReading_ne_ref (ch : Channel) (codes : List Nat) (rref : Nat) (trim : Int) :
    (channelReading ch codes rref trim).outcome ≠ .ref := by
  unfold channelReading
  split
  · rename_i fault _
    cases fault <;> simp [faultReading]
  · simp

/-- The result is REF exactly when the reference fails (R32). -/
theorem formResult_ref (info : Info) (fl : Flight) (codes : List Nat) :
    (formResult info fl codes).1.p = .ref ↔ referencePasses (codes.headD 0) (codes.getLastD 0) = false := by
  cases h : referencePasses (codes.headD 0) (codes.getLastD 0) with
  | true =>
    rw [formResult_of_passes info fl rfl rfl rfl (fun _ => rfl) h]
    exact ⟨fun hp => absurd hp (channelReading_ne_ref _ _ _ _), nofun⟩
  | false =>
    rw [formResult_of_not_passes info fl rfl rfl h]
    exact iff_of_true rfl rfl

/-- Channel A is in the result of a burst that converted it (R25). -/
theorem formResult_air (info : Info) (fl : Flight) (codes : List Nat) :
    (formResult info fl codes).1.a.isSome = fl.air := by
  unfold formResult
  dsimp only
  split
  · split <;> simp_all
  · cases fl.air <;> rfl

theorem formResult_ref_iff (info : Info) (fl : Flight) (codes : List Code) (code : Code) :
    (formResult info fl ((codes ++ [code]).map BitVec.toNat)).1.p = .ref ↔
      ¬ (1800 ≤ (codes.headD code).toNat ∧ (codes.headD code).toNat ≤ 2300 ∧ 1800 ≤ code.toNat ∧ code.toNat ≤ 2300
        ∧ (codes.headD code).toNat ≤ code.toNat + 16 ∧ code.toNat ≤ (codes.headD code).toNat + 16) := by
  have hfirst : ((codes ++ [code]).map BitVec.toNat).headD 0 = (codes.headD code).toNat := by cases codes <;> rfl
  have hlast : ((codes ++ [code]).map BitVec.toNat).getLastD 0 = code.toNat := by simp
  rw [formResult_ref, hfirst, hlast, ← Bool.not_eq_true, referencePasses_iff]

/-! ## The delivery of a result (R26, R40, R41, R64, R65) -/

section
variable {s : State}

/-- A result handed to the exposure engine: folded, and a close deferred behind its burst run (R64, R65). -/
theorem deliverToExposure_eq (r : BurstResult) (s : State) :
    let fold (acc : Accumulator) := if acc.interval = r.start.interval then foldResult r acc else acc
    let folded : State := { s with ie := { s.ie with old := s.ie.old.map fold, cur := s.ie.cur.map fold } }
    deliverToExposure r s = match folded.ie.old with
      | some acc =>
        if acc.interval = r.start.interval then
          { closeInterval false acc folded with ie := { (closeInterval false acc folded).ie with old := none } }
        else folded
      | none => folded := by
  intro fold folded
  have hfolded : { s with ie := { s.ie with old := foldInto r s.ie.old, cur := foldInto r s.ie.cur } } = folded := rfl
  unfold deliverToExposure
  rw [hfolded]
  dsimp only
  cases hold : folded.ie.old with
  | none => rfl
  | some acc => exact if_congr Iff.rfl (runDeferred_of_some hold) rfl

/-- Nothing starts while nothing pends (R24). -/
theorem startBurst_of_empty (h : s.mc.triggers.nonempty = false) : startBurst s = s :=
  if_neg (by simp [h])

theorem riseDetect_now (busy : Bool) (r : BurstResult) (s : State) : (riseDetect busy r s).now = s.now := by
  have event : (riseEvent busy r.start.interval s).now = s.now := by
    simp only [State.now, riseEvent_tb]
    rw [extendFast_tb]
  unfold riseDetect
  split
  · rfl
  · split
    · rfl
    · dsimp only
      split
      · rfl
      · split
        · exact event
        · rfl

end

/-- The state after the notes of a burst's result are taken, the result kept as the last (R43). -/
def resultNoted (fl : Flight) (codes : List Nat) (s : State) : State :=
  let result := formResult s.info fl codes
  { noteAll fl.start result.2 s with mc := { s.mc with last := some result.1 } }

/-- The state after a credited result is delivered to the exposure engine and the rise detector (R40). -/
def resultCredited (busy : Bool) (r : BurstResult) (s : State) : State :=
  if r.credit then riseDetect busy r (deliverToExposure r s) else s

theorem resultCredited_frame (busy : Bool) (r : BurstResult) (s : State) :
    (resultCredited busy r s).mc = s.mc ∧ (resultCredited busy r s).now = s.now
      ∧ (resultCredited busy r s).lc.liveInFlight = s.lc.liveInFlight := by
  unfold resultCredited
  split
  · refine ⟨by simp, ?_, (riseDetect_live ..).1.trans (deliverToExposure_live ..).1⟩
    rw [riseDetect_now]
    simp [State.now]
  · exact ⟨rfl, rfl, rfl⟩

theorem deliver_of_other (busy : Bool) {r : BurstResult} (s : State) (h : r.sources.spot = false) :
    deliver busy r s = resultCredited busy r s :=
  if_neg (by simp [h])

/-- A result that served SPOT answers the LIVE in flight (R41, R157). -/
theorem deliver_of_spot (busy : Bool) {r : BurstResult} {s : State} {who : Asker} (h : r.sources.spot = true)
    (hwho : s.lc.liveInFlight = some who) :
    deliver busy r s =
      let u := resultCredited busy r s
      placeReply ⟨who, .ok, 0, liveAnswer r⟩ busy { u with lc := { u.lc with liveInFlight := none } } := by
  have hu : (resultCredited busy r s).lc.liveInFlight = some who := (resultCredited_frame busy r s).2.2.trans hwho
  refine (if_pos h).trans ?_
  show answerLive busy r (resultCredited busy r s) = _
  rw [answerLive, hu]
  rfl

theorem deliver_now (busy : Bool) (r : BurstResult) (s : State) : (deliver busy r s).now = s.now := by
  have answered (u : State) : (answerLive busy r u).now = u.now := by simp [State.now]
  obtain ⟨_, hnow, _⟩ := resultCredited_frame busy r s
  show (if r.sources.spot then answerLive busy r (resultCredited busy r s) else resultCredited busy r s).now = _
  split
  · exact (answered _).trans hnow
  · exact hnow

/-- The end of a burst: its result delivered, the converter idle, and what pends started (R26). -/
theorem completeBurst_eq (busy : Bool) (fl : Flight) (codes : List Nat) (s : State) :
    completeBurst busy fl codes s =
      let r := (formResult s.info fl codes).1
      startBurst { deliver busy r (resultNoted fl codes s) with mc := ⟨.idle, s.mc.triggers, some r⟩ } := by
  have hmc : (noteAll fl.start (formResult s.info fl codes).2 s).mc = s.mc := by simp
  have hdelivered : (deliver busy (formResult s.info fl codes).1 (resultNoted fl codes s)).mc
      = ⟨s.mc.burst, s.mc.triggers, some (formResult s.info fl codes).1⟩ := (deliver_frame ..).2.1
  unfold completeBurst
  dsimp only
  rw [hmc]
  show startBurst { deliver busy _ (resultNoted fl codes s) with
    mc := { (deliver busy _ (resultNoted fl codes s)).mc with burst := .idle } } = _
  rw [hdelivered]

/-! ## The commands -/

theorem exec_settlingEnd {s : State} {fl : Flight} (hp : s.powered = true) (hb : s.mc.burst = .settling fl) :
    exec .settlingEnd s = .next
      { s with mc := { s.mc with burst := .converting fl [] }, timers := { s.timers with burst := 1 } } := by
  refine congrArg Host.Outcome.next ((if_pos hp).trans ?_)
  unfold settlingEnds
  rw [hb]

section
variable {s : State} {fl : Flight} {codes : List Code} (code : Code) (busy : Bool) (hp : s.powered = true)
  (hb : s.mc.burst = .converting fl codes)
include hp hb

theorem exec_conversionEnd_of_more (h : codes.length + 1 < if fl.air then 10 else 6) :
    exec (.conversionEnd code busy) s = .next
      { s with mc := { s.mc with burst := .converting fl (codes ++ [code]) }, timers := { s.timers with burst := 1 } } := by
  refine congrArg Host.Outcome.next ((if_pos hp).trans ?_)
  unfold conversionEnds
  rw [hb]
  exact if_pos (by simpa [Flight.conversions] using h)

theorem exec_conversionEnd_of_last (h : codes.length + 1 = if fl.air then 10 else 6) :
    exec (.conversionEnd code busy) s = .next (completeBurst busy fl ((codes ++ [code]).map BitVec.toNat) s) := by
  refine congrArg Host.Outcome.next ((if_pos hp).trans ?_)
  unfold conversionEnds
  rw [hb]
  exact if_neg (by simp [Flight.conversions, h])

end

/-- What pends at a burst's end starts the next burst at that moment, and nothing starts otherwise (R24, R26). -/
theorem completeBurst_next (busy : Bool) (fl : Flight) (codes : List Nat) (s : State) :
    let t := completeBurst busy fl codes s
    t.mc.last = some (formResult s.info fl codes).1
      ∧ (s.mc.triggers.nonempty = false → t.mc.burst = .idle)
      ∧ (s.mc.triggers.nonempty = true → ∃ fl', t.mc.burst = .settling fl' ∧ fl'.sources = s.mc.triggers
          ∧ fl'.start = ⟨s.tb.interval, s.tb.phase⟩ ∧ t.mc.triggers = ⟨false, false, false⟩) := by
  intro t
  let u : State := { deliver busy (formResult s.info fl codes).1 (resultNoted fl codes s) with
    mc := ⟨.idle, s.mc.triggers, some (formResult s.info fl codes).1⟩ }
  have ht : t = startBurst u := completeBurst_eq busy fl codes s
  have hnow : u.now = s.now := (deliver_now ..).trans (by simp [resultNoted, State.now])
  rw [ht]
  cases h : s.mc.triggers.nonempty with
  | false =>
    rw [startBurst_of_empty (s := u) h]
    exact ⟨rfl, fun _ => rfl, nofun⟩
  | true =>
    rw [startBurst, if_pos ⟨rfl, h⟩]
    exact ⟨rfl, nofun, fun _ => ⟨_, rfl, rfl, hnow, rfl⟩⟩

/-- Settles O39: the stages one by one, the delivery in its three parts, and the fold field by field. -/
theorem burstRuns : Obligations.BurstRuns := by
  refine ⟨⟨fun s fl hp hb => exec_settlingEnd hp hb,
    fun s fl codes code busy hp hb h => exec_conversionEnd_of_more code busy hp hb h⟩, ?_, foldResult_cases⟩
  intro s fl codes code busy hp hb hlast all result noted fold folded released credited
  obtain ⟨hstart, hsources, hcredit⟩ := formResult_fields s.info fl all
  have hexec : exec (.conversionEnd code busy) s = .next (completeBurst busy fl all s) :=
    exec_conversionEnd_of_last code busy hp hb hlast
  have hnoted : resultNoted fl all s = noted := rfl
  have hreleased : deliverToExposure result.1 noted = released := by
    have hie : noted.ie = s.ie := by simp [noted]
    have h := deliverToExposure_eq result.1 noted
    simp only [hstart, hie, result] at h
    exact h
  have hcredited : resultCredited busy result.1 noted = credited := by
    rw [resultCredited, hreleased]
    exact if_congr (by rw [hcredit]) rfl rfl
  refine ⟨fun hspot hempty => ?_, fun who hspot hempty hwho => ?_, ⟨_, hexec, completeBurst_next busy fl all s⟩, hstart,
    hsources, hcredit, formResult_air s.info fl all, formResult_ref_iff s.info fl codes code⟩
  · rw [hexec, completeBurst_eq]
    dsimp only
    rw [hnoted, deliver_of_other busy noted (by rw [hsources]; exact hspot), hcredited, hempty]
    exact congrArg Host.Outcome.next (startBurst_of_empty rfl)
  · have hlive : noted.lc.liveInFlight = some who := by simpa [noted] using hwho
    rw [hexec, completeBurst_eq]
    dsimp only
    rw [hnoted, deliver_of_spot busy (by rw [hsources]; exact hspot) hlive, hcredited, hempty]
    exact congrArg Host.Outcome.next (startBurst_of_empty rfl)

end Sys2Proof.Machine
end
